-- ==== Sys2Proof/Word.lean ====
section
/-!
DEFINITION. The values the commands of NSP2 CORE work on (spec 00 R7, 10 R11): words, command words, register numbers,
and the names that the immediate field of a command stands for.
-/

namespace Sys2Proof

/-- A W-bit value: "an unsigned integer in [0, 2^W)" (10 R11). W is a parameter (00 R6), so the bound stands in the
invariant `Sys2Proof.Machine.State.Inv` and not in the type. DESIGN CHOICE, safe (log 5). -/
abbrev Word := Nat

/-- A command word: 32 bits, bit 31 the most significant (30 R45). -/
abbrev CmdWord := BitVec 32

/-- A register field: a 4-bit number 0 to 15 that names `x[0]` to `x[15]` (30 R46). -/
abbrev Reg := Fin 16

/-- The populated control registers, indices 0 to 10 in this order (10 R26). -/
inductive Csr where
  | status | ecause | ecmd | key | k1 | k2 | iv | chain | poollen | poolcap | width
  deriving DecidableEq, Repr

/-- The document's CipherMode (10 R24). -/
inductive CipherMode where
  | ecb | cbc
  deriving DecidableEq, Repr

/-- `v` is a value of width `w` (00 R7). -/
abbrev Fits (w : Nat) (v : Word) : Prop := v < 2 ^ w

end Sys2Proof
end

