-- ==== Sys2Proof/Config.lean ====
section
/-!
DEFINITION. What an implementation fixes (spec 00 R6, "OPEN": the model takes the parameter as an argument), and the
one free value of the model: the random draw (10 R27, 93 U3).
-/

namespace Sys2Proof

/-- `TABLES` (44 R90). A table entry is a position counted from 1 at the most significant bit (44 R91). -/
structure Tables where
  /-- key permutation -/
  p10 : Vector Nat 10
  /-- key selection, 10 bits to 8 -/
  p8 : Vector Nat 8
  /-- left-rotation amount of the key halves for subkey 1 -/
  ls1 : Nat
  /-- further left-rotation amount for subkey 2 -/
  ls2 : Nat
  /-- initial permutation -/
  ip : Vector Nat 8
  /-- final permutation -/
  fp : Vector Nat 8
  /-- expansion, 4 bits to 8 -/
  ep : Vector Nat 8
  /-- permutation of the S-box outputs -/
  p4 : Vector Nat 4
  /-- first substitution box, rows of columns -/
  s0 : Vector (Vector (BitVec 2) 4) 4
  /-- second substitution box -/
  s1 : Vector (Vector (BitVec 2) 4) 4
  deriving DecidableEq, Repr

/-- The OPEN parameters of 00 R6. -/
structure Config where
  /-- `W`, the width in bits of a register, of `wdata`, of `rdata` and of a pool word -/
  w : Nat
  /-- `POOLCAP`, the number of words of the pool memory -/
  poolCap : Nat
  /-- `E_DEFAULT`, the RSA public exponent tried first -/
  eDefault : Nat
  /-- `TABLES`, the cipher's tables -/
  tables : Tables
  deriving DecidableEq, Repr

/-- The value of the `n`-th draw where the host has injected none: "any value: a free input of the step, fresh at every
draw, under no law" (93 U3). No body: nothing can be proved of its value (log 8). -/
opaque Config.freeDraw : Nat → Nat

end Sys2Proof
end

