-- ==== Sys2Proof/Machine/Cipher.lean ====
section
/-!
DEFINITION. The pure functions of the 8-bit Feistel cipher (spec 44 R91, R93 to R97), over any `TABLES`.
-/

namespace Sys2Proof.Machine

/-- `perm(T, n, v)[k - j] = v[n - T[j]]` for j = 1 .. k (44 R91): bit `i` of the result is position `j = k - i`. -/
def perm {k n : Nat} (t : Vector Nat k) (v : BitVec n) : BitVec k :=
  BitVec.ofFnLE fun i => v.getLsbD (n - t[k - 1 - i.val]'(by omega))

/-- `rol5(v, s)` (44 R91). -/
def rol5 (v : BitVec 5) (s : Nat) : BitVec 5 := (v <<< s) ||| (v >>> (5 - s))

/-- `subkeys(key)` (44 R93). -/
def subkeys (t : Tables) (key : BitVec 10) : BitVec 8 × BitVec 8 :=
  let p := perm t.p10 key
  let l1 := rol5 (p.extractLsb' 5 5) t.ls1
  let r1 := rol5 (p.extractLsb' 0 5) t.ls1
  let l2 := rol5 l1 t.ls2
  let r2 := rol5 r1 t.ls2
  (perm t.p8 (l1 ++ r1), perm t.p8 (l2 ++ r2))

/-- `sbox(S, n) = S[row][col]` with `row = 2*b1 + b4`, `col = 2*b2 + b3` (44 R94). -/
def sbox (s : Vector (Vector (BitVec 2) 4) 4) (n : BitVec 4) : BitVec 2 :=
  let row := BitVec.ofBool (n.getLsbD 3) ++ BitVec.ofBool (n.getLsbD 0)
  let col := n.extractLsb' 1 2
  (s[row.toNat]'row.isLt)[col.toNat]'col.isLt

/-- The round function `F(r, k)` (44 R95). -/
def roundF (t : Tables) (r : BitVec 4) (k : BitVec 8) : BitVec 4 :=
  let u := perm t.ep r ^^^ k
  perm t.p4 (sbox t.s0 (u.extractLsb' 4 4) ++ sbox t.s1 (u.extractLsb' 0 4))

/-- `Encrypt(b, K1, K2)` (44 R96): round 1 with `k1`, the halves swapped, round 2 with `k2`, no swap after it. -/
def encryptBlock (t : Tables) (b k1 k2 : BitVec 8) : BitVec 8 :=
  let p := perm t.ip b
  let l0 := p.extractLsb' 4 4
  let r0 := p.extractLsb' 0 4
  let l1 := l0 ^^^ roundF t r0 k1
  let l2 := r0 ^^^ roundF t l1 k2
  perm t.fp (l2 ++ l1)

/-- `Decrypt(b, K1, K2) = Encrypt(b, K2, K1)` (44 R97). -/
def decryptBlock (t : Tables) (b k1 k2 : BitVec 8) : BitVec 8 := encryptBlock t b k2 k1

end Sys2Proof.Machine
end

