-- ==== Sys2Proof/Syntax.lean ====
section
/-!
DEFINITION. The 25 commands of the opcode map (spec 30 R47, opcode_table.json), one constructor per row, each with the
fields the row's "uses" column lists.
-/

namespace Sys2Proof

/-- One command. Field names are those of 30 R45. -/
inductive Instr where
  /-- 40 R55 -/
  | nop
  /-- 40 R56 -/
  | wr (rd : Reg)
  /-- 40 R57 -/
  | rd (ra : Reg)
  /-- 40 R58 -/
  | csrr (csr : Csr)
  /-- 40 R59 -/
  | errack
  /-- 41 R66 -/
  | mulmod (rd ra rb rm : Reg)
  /-- 42 R70; `neg` is the flag N = imm8[0] (42 R71) -/
  | powmod (rd ra rb rm : Reg) (neg : Bool)
  /-- 43 R75 -/
  | gcd (rd ra rb : Reg)
  /-- 43 R77 -/
  | modinv (rd ra rm : Reg)
  /-- 43 R79 -/
  | findgen (rd ra : Reg)
  /-- 43 R81; `rd` is 0, 4, 8 or 12 in a well-formed command -/
  | rsagen (rd ra rb : Reg)
  /-- 43 R82 -/
  | poolclr
  /-- 43 R83 -/
  | poolpush (ra : Reg)
  /-- 43 R84 -/
  | poolrd (rd ra : Reg)
  /-- 43 R85 -/
  | sample (rd : Reg)
  /-- 44 R99 -/
  | keyset (ra : Reg)
  /-- 44 R100 -/
  | keydrv (ra : Reg)
  /-- 44 R101 -/
  | fenc (rd ra : Reg)
  /-- 44 R102 -/
  | fdec (rd ra : Reg)
  /-- 45 R106 -/
  | setmode (mode : CipherMode)
  /-- 45 R107 -/
  | ivset (ra : Reg)
  /-- 45 R108 -/
  | ivgen
  /-- 45 R109 -/
  | mstart
  /-- 45 R110 -/
  | cenc (rd ra : Reg)
  /-- 45 R111 -/
  | cdec (rd ra : Reg)
  deriving DecidableEq, Repr

end Sys2Proof
end

