-- ==== Sys2Proof/WellFormed.lean ====
section
/-!
DEFINITION. When a command (spec 30 R47), a set of cipher tables (44 R90) and a configuration (00 R6) are well formed.
-/

namespace Sys2Proof

/-- The constraint column of 30 R47 that the types do not already carry: RSAGEN's `rd` is 0, 4, 8 or 12. A CSR index
above 10, a mode above 1 and a flag byte above 1 cannot be written as an `Instr`. -/
def Instr.wellFormed : Instr → Bool
  | .rsagen dst _ _ => dst.val % 4 == 0
  | .nop | .wr _ | .rd _ | .csrr _ | .errack | .mulmod .. | .powmod .. | .gcd .. | .modinv .. | .findgen ..
  | .poolclr | .poolpush _ | .poolrd .. | .sample _ | .keyset _ | .keydrv _ | .fenc .. | .fdec .. | .setmode _
  | .ivset _ | .ivgen | .mstart | .cenc .. | .cdec .. => true

/-- Every entry lies in 1..n. -/
def entriesWithin (n : Nat) (l : List Nat) : Bool := l.all fun j => 1 ≤ j && j ≤ n

/-- Entries in 1..n and pairwise distinct; with `n` entries, a permutation of 1..n. -/
def distinctWithin (n : Nat) (l : List Nat) : Bool := entriesWithin n l && decide l.Nodup

/-- `FP[IP[j]] = j` for j = 1..8 (44 R90). -/
def invertsIp (t : Tables) : Bool :=
  (List.range 8).all fun j => t.fp.toList.getD (t.ip.toList.getD j 0 - 1) 0 == j + 1

/-- The well-formedness column of 44 R90. That the S-box entries lie in 0..3 is their type. -/
def Tables.wellFormed (t : Tables) : Bool :=
  distinctWithin 10 t.p10.toList && distinctWithin 10 t.p8.toList && decide (t.ls1 < 5) && decide (t.ls2 < 5) &&
  distinctWithin 8 t.ip.toList && invertsIp t && entriesWithin 4 t.ep.toList && distinctWithin 4 t.p4.toList

/-- The constraint column of 00 R6. -/
def Config.wellFormed (c : Config) : Bool :=
  decide (32 ≤ c.w) && decide (1 ≤ c.poolCap) && decide (c.poolCap < 2 ^ c.w) && c.eDefault % 2 == 1 &&
  decide (3 ≤ c.eDefault) && decide (c.eDefault < 2 ^ c.w) && c.tables.wellFormed

end Sys2Proof
end

