-- ==== Sys2Proof/Decode.lean ====
section
/-!
DEFINITION. The decoder, total on 32-bit words (spec 30 R45 to R50), and the encoder (30 R54).
-/

namespace Sys2Proof

/-- Why a word is a reserved encoding (30 R48). All of them raise the same cause. -/
inductive Reserved where
  /-- an `op` value not in the table -/
  | unassignedOpcode
  /-- a listed `op` whose other fixed bits are not those of its row -/
  | fixedBitsNonzero
  /-- CSRR with `imm8 > 10` -/
  | csrIndex
  deriving DecidableEq, Repr

/-- What the decoder answers (30 R50). -/
inductive Decoded where
  | command (i : Instr)
  | reserved (why : Reserved)
  deriving DecidableEq, Repr

/-- The rows of 30 R47, by mnemonic. -/
inductive Opcode where
  | nop | wr | rd | csrr | errack | mulmod | powmod | gcd | modinv | findgen | rsagen | poolclr | poolpush | poolrd
  | sample | keyset | keydrv | fenc | fdec | setmode | ivset | ivgen | mstart | cenc | cdec
  deriving DecidableEq, Repr

/-- All rows, in the table's order. -/
def Opcode.all : List Opcode :=
  [.nop, .wr, .rd, .csrr, .errack, .mulmod, .powmod, .gcd, .modinv, .findgen, .rsagen, .poolclr, .poolpush, .poolrd,
   .sample, .keyset, .keydrv, .fenc, .fdec, .setmode, .ivset, .ivgen, .mstart, .cenc, .cdec]

/-- The "match" column of 30 R47; its bits 31:24 are the "op" column. -/
def Opcode.pattern : Opcode → CmdWord
  | .nop => 0x00000000#32
  | .wr => 0x01000000#32
  | .rd => 0x02000000#32
  | .csrr => 0x03000000#32
  | .errack => 0x04000000#32
  | .mulmod => 0x10000000#32
  | .powmod => 0x11000000#32
  | .gcd => 0x20000000#32
  | .modinv => 0x21000000#32
  | .findgen => 0x22000000#32
  | .rsagen => 0x23000000#32
  | .poolclr => 0x28000000#32
  | .poolpush => 0x29000000#32
  | .poolrd => 0x2A000000#32
  | .sample => 0x2B000000#32
  | .keyset => 0x30000000#32
  | .keydrv => 0x31000000#32
  | .fenc => 0x32000000#32
  | .fdec => 0x33000000#32
  | .setmode => 0x40000000#32
  | .ivset => 0x41000000#32
  | .ivgen => 0x42000000#32
  | .mstart => 0x43000000#32
  | .cenc => 0x44000000#32
  | .cdec => 0x45000000#32

/-- The "mask" column of 30 R47. -/
def Opcode.mask : Opcode → CmdWord
  | .nop | .errack | .poolclr | .ivgen | .mstart => 0xFFFFFFFF#32
  | .wr | .sample => 0xFF0FFFFF#32
  | .rd | .poolpush | .keyset | .keydrv | .ivset => 0xFFF0FFFF#32
  | .csrr => 0xFFFFFF00#32
  | .mulmod => 0xFF0000FF#32
  | .powmod => 0xFF0000FE#32
  | .gcd => 0xFF000FFF#32
  | .modinv => 0xFF00F0FF#32
  | .findgen | .poolrd | .fenc | .fdec | .cenc | .cdec => 0xFF00FFFF#32
  | .rsagen => 0xFF300FFF#32
  | .setmode => 0xFFFFFFFE#32

/-- `op`, bits 31:24 (30 R45). -/
def opField (w : CmdWord) : BitVec 8 := w.extractLsb' 24 8
/-- `rd`, bits 23:20. -/
def rdField (w : CmdWord) : Reg := (w.extractLsb' 20 4).toFin
/-- `ra`, bits 19:16. -/
def raField (w : CmdWord) : Reg := (w.extractLsb' 16 4).toFin
/-- `rb`, bits 15:12. -/
def rbField (w : CmdWord) : Reg := (w.extractLsb' 12 4).toFin
/-- `rm`, bits 11:8. -/
def rmField (w : CmdWord) : Reg := (w.extractLsb' 8 4).toFin
/-- `imm8`, bits 7:0. -/
def imm8Field (w : CmdWord) : BitVec 8 := w.extractLsb' 0 8

/-- The index of a control register (10 R26). -/
def Csr.index : Csr → BitVec 8
  | .status => 0 | .ecause => 1 | .ecmd => 2 | .key => 3 | .k1 => 4 | .k2 => 5 | .iv => 6 | .chain => 7
  | .poollen => 8 | .poolcap => 9 | .width => 10

/-- All populated control registers. -/
def Csr.all : List Csr := [.status, .ecause, .ecmd, .key, .k1, .k2, .iv, .chain, .poollen, .poolcap, .width]

/-- The control register of an index; none above 10 (30 R46, R48). -/
def Csr.ofIndex (i : BitVec 8) : Option Csr := Csr.all.find? fun c => c.index == i

/-- The mode value: 0 = ECB, 1 = CBC (10 R24). -/
def CipherMode.bit : CipherMode → Bool
  | .ecb => false
  | .cbc => true

/-- The mode of a bit. -/
def CipherMode.ofBit (b : Bool) : CipherMode := if b then .cbc else .ecb

/-- The row whose "op" column is `op`. -/
def Opcode.ofOp (op : BitVec 8) : Option Opcode := Opcode.all.find? fun o => opField o.pattern == op

/-- The command of a row, its fields taken from the word (30 R46). -/
def operandsOf (o : Opcode) (w : CmdWord) : Decoded :=
  match o with
  | .nop => .command .nop
  | .wr => .command (.wr (rdField w))
  | .rd => .command (.rd (raField w))
  | .csrr =>
    match Csr.ofIndex (imm8Field w) with
    | some c => .command (.csrr c)
    | none => .reserved .csrIndex
  | .errack => .command .errack
  | .mulmod => .command (.mulmod (rdField w) (raField w) (rbField w) (rmField w))
  | .powmod => .command (.powmod (rdField w) (raField w) (rbField w) (rmField w) ((imm8Field w).getLsbD 0))
  | .gcd => .command (.gcd (rdField w) (raField w) (rbField w))
  | .modinv => .command (.modinv (rdField w) (raField w) (rmField w))
  | .findgen => .command (.findgen (rdField w) (raField w))
  | .rsagen => .command (.rsagen (rdField w) (raField w) (rbField w))
  | .poolclr => .command .poolclr
  | .poolpush => .command (.poolpush (raField w))
  | .poolrd => .command (.poolrd (rdField w) (raField w))
  | .sample => .command (.sample (rdField w))
  | .keyset => .command (.keyset (raField w))
  | .keydrv => .command (.keydrv (raField w))
  | .fenc => .command (.fenc (rdField w) (raField w))
  | .fdec => .command (.fdec (rdField w) (raField w))
  | .setmode => .command (.setmode (CipherMode.ofBit ((imm8Field w).getLsbD 0)))
  | .ivset => .command (.ivset (raField w))
  | .ivgen => .command .ivgen
  | .mstart => .command .mstart
  | .cenc => .command (.cenc (rdField w) (raField w))
  | .cdec => .command (.cdec (rdField w) (raField w))

/-- The decoder: the row with the word's `op`, if `(w AND mask) = match` and the constraint column holds (30 R47). -/
def decode (w : CmdWord) : Decoded :=
  match Opcode.ofOp (opField w) with
  | none => .reserved .unassignedOpcode
  | some o => if w &&& o.mask = o.pattern then operandsOf o w else .reserved .fixedBitsNonzero

/-- `op << 24 | rd << 20 | ra << 16 | rb << 12 | rm << 8 | imm8` (30 R54). -/
def commandWord (op : BitVec 8) (rd ra rb rm : Reg) (imm8 : BitVec 8) : CmdWord :=
  op.setWidth 32 <<< 24 ||| BitVec.ofNat 32 rd <<< 20 ||| BitVec.ofNat 32 ra <<< 16 ||| BitVec.ofNat 32 rb <<< 12 |||
    BitVec.ofNat 32 rm <<< 8 ||| imm8.setWidth 32

/-- A one-bit immediate: bit 0 of `imm8`, bits 7:1 zero. -/
def flagByte (b : Bool) : BitVec 8 := if b then 1 else 0

/-- The word of a command, "with every field the command does not use set to 0" (30 R54). -/
def encode : Instr → CmdWord
  | .nop => commandWord 0x00 0 0 0 0 0
  | .wr rd => commandWord 0x01 rd 0 0 0 0
  | .rd ra => commandWord 0x02 0 ra 0 0 0
  | .csrr csr => commandWord 0x03 0 0 0 0 csr.index
  | .errack => commandWord 0x04 0 0 0 0 0
  | .mulmod rd ra rb rm => commandWord 0x10 rd ra rb rm 0
  | .powmod rd ra rb rm neg => commandWord 0x11 rd ra rb rm (flagByte neg)
  | .gcd rd ra rb => commandWord 0x20 rd ra rb 0 0
  | .modinv rd ra rm => commandWord 0x21 rd ra 0 rm 0
  | .findgen rd ra => commandWord 0x22 rd ra 0 0 0
  | .rsagen rd ra rb => commandWord 0x23 rd ra rb 0 0
  | .poolclr => commandWord 0x28 0 0 0 0 0
  | .poolpush ra => commandWord 0x29 0 ra 0 0 0
  | .poolrd rd ra => commandWord 0x2A rd ra 0 0 0
  | .sample rd => commandWord 0x2B rd 0 0 0 0
  | .keyset ra => commandWord 0x30 0 ra 0 0 0
  | .keydrv ra => commandWord 0x31 0 ra 0 0 0
  | .fenc rd ra => commandWord 0x32 rd ra 0 0 0
  | .fdec rd ra => commandWord 0x33 rd ra 0 0 0
  | .setmode mode => commandWord 0x40 0 0 0 0 (flagByte mode.bit)
  | .ivset ra => commandWord 0x41 0 ra 0 0 0
  | .ivgen => commandWord 0x42 0 0 0 0 0
  | .mstart => commandWord 0x43 0 0 0 0 0
  | .cenc rd ra => commandWord 0x44 rd ra 0 0 0
  | .cdec rd ra => commandWord 0x45 rd ra 0 0 0

/-- The row of a command. -/
def Instr.opcode : Instr → Opcode
  | .nop => .nop
  | .wr _ => .wr
  | .rd _ => .rd
  | .csrr _ => .csrr
  | .errack => .errack
  | .mulmod .. => .mulmod
  | .powmod .. => .powmod
  | .gcd .. => .gcd
  | .modinv .. => .modinv
  | .findgen .. => .findgen
  | .rsagen .. => .rsagen
  | .poolclr => .poolclr
  | .poolpush _ => .poolpush
  | .poolrd .. => .poolrd
  | .sample _ => .sample
  | .keyset _ => .keyset
  | .keydrv _ => .keydrv
  | .fenc .. => .fenc
  | .fdec .. => .fdec
  | .setmode _ => .setmode
  | .ivset _ => .ivset
  | .ivgen => .ivgen
  | .mstart => .mstart
  | .cenc .. => .cenc
  | .cdec .. => .cdec

/-- The command word the opcode table's `nbits` bits `w` stand for; every bit above `nbits` is 0. A command is one
32-bit word, so there is no byte order to lay out (20 R34, 30 R45). -/
def tableWord (nbits w : Nat) : CmdWord := BitVec.ofNat 32 (w % 2 ^ nbits)

/-- The command the decoder reads from an opcode-table word, none where it is reserved. -/
def decodeTableWord (nbits w : Nat) : Option Instr :=
  match decode (tableWord nbits w) with
  | .command i => some i
  | .reserved _ => none

end Sys2Proof
end

