-- ==== Sys2Proof/Machine/Cause.lean ====
section
/-!
DEFINITION. The fourteen causes the core raises and their codes (spec 60 R120, R121).
-/

namespace Sys2Proof.Machine

/-- Every cause the core raises (60 R121), in the table's order. -/
inductive Cause where
  | zeroModulus | negExponent | equalPrimes | keyWidth | rangeOverflow | notInvertible | blockRange
  | noGenerator | noExponent
  | reservedEncoding | noKey | noIv | poolFull | poolIndex
  deriving DecidableEq, Repr

/-- `ECAUSE[7:4]`: 1 ArgumentError, 5 SearchExhausted, 6 IllegalCommand (60 R120). -/
def Cause.errorClass : Cause → BitVec 4
  | .zeroModulus | .negExponent | .equalPrimes | .keyWidth | .rangeOverflow | .notInvertible | .blockRange => 1
  | .noGenerator | .noExponent => 5
  | .reservedEncoding | .noKey | .noIv | .poolFull | .poolIndex => 6

/-- `ECAUSE[3:0]` (60 R121). -/
def Cause.detail : Cause → BitVec 4
  | .zeroModulus => 1
  | .negExponent => 2
  | .equalPrimes => 3
  | .keyWidth => 4
  | .rangeOverflow => 5
  | .notInvertible => 6
  | .blockRange => 7
  | .noGenerator => 1
  | .noExponent => 2
  | .reservedEncoding => 1
  | .noKey => 2
  | .noIv => 3
  | .poolFull => 4
  | .poolIndex => 5

/-- `ECAUSE = class << 4 | detail` (60 R121). -/
def Cause.code (c : Cause) : BitVec 8 := c.errorClass ++ c.detail

end Sys2Proof.Machine
end

