-- ==== Sys2Proof/Machine/Defaults.lean ====
section
/-!
DEFINITION. The default values of the OPEN parameters (spec 00 R6, 44 R92): those every vector of spec 95 uses.
-/

namespace Sys2Proof.Machine

/-- The standard teaching-cipher tables (44 R92, 93 G1). The document gives none of the values: the spec supplies them
from general knowledge. PRESUMED, unsafe (log 2). -/
def teachingTables : Tables where
  p10 := #v[3, 5, 2, 7, 4, 10, 1, 9, 8, 6]
  p8 := #v[6, 3, 7, 4, 8, 5, 10, 9]
  ls1 := 1
  ls2 := 2
  ip := #v[2, 6, 3, 1, 4, 8, 5, 7]
  fp := #v[4, 1, 3, 5, 7, 2, 8, 6]
  ep := #v[4, 1, 2, 3, 2, 3, 4, 1]
  p4 := #v[2, 4, 3, 1]
  s0 := #v[#v[1, 0, 3, 2], #v[3, 2, 1, 0], #v[0, 2, 1, 3], #v[3, 1, 3, 2]]
  s1 := #v[#v[0, 1, 2, 3], #v[2, 0, 1, 3], #v[3, 0, 1, 0], #v[2, 1, 0, 3]]

/-- The defaults of 00 R6. -/
def defaultConfig : Config where
  w := 32
  poolCap := 256
  eDefault := 65537
  tables := teachingTables

end Sys2Proof.Machine
end

