-- ==== Sys2Proof/Machine/State.lean ====
section
/-!
DEFINITION. The state of NSP2 CORE (spec 10 R10), its memory (20 R32), the host's side of the command port (30 R44),
the outcomes of a step, and the state after reset (10 R30).
-/

namespace Sys2Proof.Machine

/-- The prime pool's cells: (index, word), indices strictly rising, no cell holding the word an unlisted index reads as.
The pool is word-addressed and has no bytes (20 R31, R34), so a cell holds a word. DESIGN CHOICE, safe (log 13). -/
abbrev Memory := List (Nat × Word)

/-- What an index reads as that nothing has written. The spec leaves it open and no command can observe it (93 U2).
DESIGN CHOICE, unsafe (log 4). -/
def Memory.blank : Word := 0

/-- The canonical form of the pool's cells. -/
abbrev Memory.wf (m : Memory) : Prop := m.Pairwise (fun c d => c.1 < d.1) ∧ ∀ c ∈ m, c.2 ≠ Memory.blank

/-- `resp` (30 R44): executed; executed and raised a fault; dropped. Value 3 is never produced. -/
inductive Resp where
  | ok | err | rej
  deriving DecidableEq, Repr

/-- What the core answers to a transaction (30 R44). -/
structure Answer where
  resp : Resp
  rdata : Word
  deriving DecidableEq, Repr

/-- What the host can do to the core (40 R60): present a transaction, or assert reset. -/
inductive HostMove where
  /-- present `cmd` and `wdata` -/
  | transaction (cmd : CmdWord) (wdata : Word)
  /-- assert reset (70 R140) -/
  | reset
  deriving DecidableEq, Repr

/-- The state. The first block is 10 R10, in its order; the others are the parameters, the port and the model's own
fields. -/
structure State where
  /-- `x[0]` .. `x[15]` -/
  x : Vector Word 16
  /-- 1 while a raised error is unacknowledged -/
  fault : Bool
  /-- 1 when KEY, K1, K2 hold a loaded key -/
  keyv : Bool
  /-- 1 when IV and CHAIN hold loaded values -/
  ivv : Bool
  /-- CipherMode -/
  mode : CipherMode
  /-- 1 when the last SAMPLE found the pool empty -/
  empty : Bool
  /-- cause code of the unacknowledged fault, else 0 -/
  ecause : BitVec 8
  /-- command word that raised the unacknowledged fault, else 0 -/
  ecmd : BitVec 32
  /-- CipherKey -/
  key : BitVec 10
  /-- subkey 1 -/
  k1 : BitVec 8
  /-- subkey 2 -/
  k2 : BitVec 8
  /-- the session's initialisation vector -/
  iv : BitVec 8
  /-- CBC chaining value -/
  chain : BitVec 8
  /-- number of valid pool words -/
  poolLen : Nat
  /-- the prime pool memory -/
  pool : Memory
  /-- the parameters `W`, `POOLCAP`, `E_DEFAULT`, `TABLES` (00 R6); no step changes them (log 1) -/
  cfg : Config
  /-- the command word on the port (log 9) -/
  cmd : CmdWord
  /-- the data operand on the port (log 9) -/
  wdata : Word
  /-- the answer to the last transaction; none since reset (log 9) -/
  answer : Option Answer
  /-- the model's own: the host's moves not yet taken, the next one first (log 6) -/
  inbox : List HostMove
  /-- the model's own: injected draws, the next one first (log 8) -/
  draws : List Nat
  /-- the model's own: how many draws have been taken (log 8) -/
  drawCount : Nat
  /-- the model's own: which general registers a command has written since reset (93 U1, log 3) -/
  written : Vector Bool 16
  deriving DecidableEq, Repr

/-- Model-level faults: none. "Nothing in the core is stuck: the decoder is total, every command terminates" (93); the
spec's errors are next states (60 R122). Safe: nobody raises one. -/
inductive Fault where
  deriving DecidableEq, Repr

/-- Refusals. -/
inductive Refusal where
  /-- Raised by `exec` alone, for a command that has no meaning yet; every command has one, so nobody raises it. Safe. -/
  | notModelled (mnemonic : String)
  deriving DecidableEq, Repr

/-- The outcome of a command. -/
abbrev Result := Host.Outcome State Fault Refusal

/-- The machine right after reset (10 R30), in the default configuration. The spec leaves `x` unspecified: 0 is the
model's, DESIGN CHOICE, unsafe (log 3), and `written` says that no register has been written. -/
def State.reset : State where
  x := Vector.replicate 16 0
  fault := false
  keyv := false
  ivv := false
  mode := .ecb
  empty := false
  ecause := 0
  ecmd := 0
  key := 0
  k1 := 0
  k2 := 0
  iv := 0
  chain := 0
  poolLen := 0
  pool := []
  cfg := defaultConfig
  cmd := 0
  wdata := 0
  answer := none
  inbox := []
  draws := []
  drawCount := 0
  written := Vector.replicate 16 false

end Sys2Proof.Machine
end

