-- ==== Sys2Proof/Machine/Operands.lean ====
section
/-!
DEFINITION. The operand forms (spec 10 section 2, 20 R33, R42, 30 R46): general registers, pool words, and the block
and key a register value stands for.
-/

namespace Sys2Proof.Machine

/-- `x[r]` (00 R7). Every register is an ordinary one: none is hardwired (10 R12). -/
def readReg (r : Reg) (s : State) : Word := s.x[r]

/-- `x[r] <- v`: no register write truncates (10 R16). The written bit is set (93 U1). -/
def writeReg (r : Reg) (v : Word) (s : State) : State :=
  { s with x := s.x.set r v, written := s.written.set r true }

/-- The register `k` places after `r`: `x[rd+k]` of RSAGEN, whose well-formed `rd` never wraps (43 R81, log 15). -/
def regAfter (r : Reg) (k : Nat) : Reg := Fin.ofNat 16 (r.val + k)

/-- Look an index up in the pool's cells. -/
def Memory.read : Memory → Nat → Word
  | [], _ => Memory.blank
  | c :: m, i => if c.1 = i then c.2 else Memory.read m i

/-- The cells without the cell of an index. -/
def Memory.erase (m : Memory) (i : Nat) : Memory := m.filter fun c => c.1 != i

/-- Insert a cell in its place; the index is not listed. -/
def Memory.insert : Memory → Nat → Word → Memory
  | [], i, v => [(i, v)]
  | c :: m, i, v => if i < c.1 then (i, v) :: c :: m else c :: Memory.insert m i v

/-- Write a word, keeping the canonical form: the blank word is not listed. -/
def Memory.write (m : Memory) (i : Nat) (v : Word) : Memory :=
  if v = Memory.blank then m.erase i else (m.erase i).insert i v

/-- `PoolRead(i)` (00 R7, 20 R33). -/
def poolRead (i : Nat) (s : State) : Word := s.pool.read i

/-- `PoolWrite(i, v)` (00 R7, 20 R33). -/
def poolWrite (i : Nat) (v : Word) (s : State) : State := { s with pool := s.pool.write i v }

/-- The low 8 bits of a register value: one message block (20 R42). Where a rule cuts a value to `b[7:0]` it has tested `b < 256`. -/
def blockOf (v : Word) : BitVec 8 := BitVec.ofNat 8 v

/-- The low 10 bits of a register value: a cipher key (44 R91, R100: `x[ra] mod 1024`). -/
def keyOf (v : Word) : BitVec 10 := BitVec.ofNat 10 v

/-- `zext_W` (00 R7): the same unsigned integer. -/
def zext {n : Nat} (v : BitVec n) : Word := v.toNat

end Sys2Proof.Machine
end

