-- ==== Sys2Proof/Machine/Flags.lean ====
section
/-!
DEFINITION. The status flags (spec 10 R18, R19), the control registers as CSRR reads them (10 R26), the interrupt
line (60 R127), and the one writer of each piece of control state.
-/

namespace Sys2Proof.Machine

/-- `irq`, "a level equal to `FAULT` at all times" (60 R127). -/
def irq (s : State) : Bool := s.fault

/-- The two bits of `resp`: 0 = OK, 1 = ERR, 2 = REJ (30 R44). -/
def Resp.code : Resp → BitVec 2
  | .ok => 0
  | .err => 1
  | .rej => 2

/-- STATUS: FAULT, KEYV, IVV, MODE, EMPTY in bits 0 to 4; bits W-1..5 read as 0 (10 R18). -/
def statusWord (s : State) : BitVec 5 :=
  BitVec.ofBool s.empty ++ BitVec.ofBool (s.mode == .cbc) ++ BitVec.ofBool s.ivv ++ BitVec.ofBool s.keyv ++
    BitVec.ofBool s.fault

/-- The value of a control register, zero-extended (10 R26). Reading has no side effect (20 R36). -/
def readCsr (c : Csr) (s : State) : Word :=
  match c with
  | .status => zext (statusWord s)
  | .ecause => zext s.ecause
  | .ecmd => zext s.ecmd
  | .key => zext s.key
  | .k1 => zext s.k1
  | .k2 => zext s.k2
  | .iv => zext s.iv
  | .chain => zext s.chain
  | .poollen => s.poolLen
  | .poolcap => s.cfg.poolCap
  | .width => s.cfg.w

/-- `EMPTY <- b`: SAMPLE is its one writer (10 R19). -/
def setEmpty (b : Bool) (s : State) : State := { s with empty := b }

/-- `MODE <- m`: SETMODE is its one writer (10 R24). -/
def setMode (m : CipherMode) (s : State) : State := { s with mode := m }

/-- KEY, K1, K2 written all three together, and `KEYV <- 1` (10 R22). -/
def setKey (k : BitVec 10) (k1 k2 : BitVec 8) (s : State) : State :=
  { s with key := k, k1 := k1, k2 := k2, keyv := true }

/-- `IV <- v`, `CHAIN <- v`, `IVV <- 1` (45 R107, R108). -/
def setIv (v : BitVec 8) (s : State) : State := { s with iv := v, chain := v, ivv := true }

/-- `CHAIN <- v` (10 R23). -/
def setChain (v : BitVec 8) (s : State) : State := { s with chain := v }

/-- `POOLLEN <- n` (10 R25). -/
def setPoolLen (n : Nat) (s : State) : State := { s with poolLen := n }

end Sys2Proof.Machine
end

