-- ==== Sys2Proof/Machine/Ops.lean ====
section
/-!
DEFINITION. The shared operations: answering on the port (spec 30 R44), raising a fault and returning from one
(60 R122, R125), the fault filter (60 R124), draws (10 R27), taking a host move, and reset (70 R140).
-/

namespace Sys2Proof.Machine

/-- `resp = OK` with `rdata` (30 R44). -/
def respond (rdata : Word) (s : State) : State := { s with answer := some ⟨.ok, rdata⟩ }

/-- A command that completes without `raise`: `resp = OK`, `rdata = 0` (40, template). -/
def complete (s : State) : Result := .next (respond 0 s)

/-- Fault entry (60 R122): FAULT, ECAUSE and ECMD are written, the answer is ERR with `rdata = 0`, and nothing else
changes. The word recorded is the one on the port. -/
def raise (c : Cause) (s : State) : State :=
  { s with fault := true, ecause := c.code, ecmd := s.cmd, answer := some ⟨.err, 0⟩ }

/-- A command that ends in a `raise`. -/
def trap (c : Cause) (s : State) : Result := .next (raise c s)

/-- Return from the fault state (60 R125, 40 R59): nothing is restored. -/
def acknowledge (s : State) : State := { s with fault := false, ecause := 0, ecmd := 0 }

/-- A dropped word (60 R124): `resp = REJ`, `rdata = 0`, no state changed. -/
def reject (s : State) : State := { s with answer := some ⟨.rej, 0⟩ }

/-- The commands executed while FAULT = 1 (60 R124). -/
def acceptedInFault : Instr → Bool
  | .nop | .rd _ | .csrr _ | .errack => true
  | .wr _ | .mulmod .. | .powmod .. | .gcd .. | .modinv .. | .findgen .. | .rsagen .. | .poolclr | .poolpush _
  | .poolrd .. | .sample _ | .keyset _ | .keydrv _ | .fenc .. | .fdec .. | .setmode _ | .ivset _ | .ivgen | .mstart
  | .cenc .. | .cdec .. => false

/-- What becomes of a presented word before any command rule runs. -/
inductive Admission where
  /-- answered at once: dropped, or a reserved encoding -/
  | answered (s : State)
  /-- to be executed by its rule -/
  | execute (i : Instr) (s : State)

/-- The fault filter, then the decoder's verdict (60 R124, R126 items 1 and 2, 30 R48). -/
def filterWord (d : Decoded) (s : State) : Admission :=
  match d with
  | .reserved _ => .answered (if s.fault then reject s else raise .reservedEncoding s)
  | .command i => if s.fault && !acceptedInFault i then .answered (reject s) else .execute i s

/-- The value of the next draw (10 R27): the next injected value, else the free value; its low `n` bits. DESIGN CHOICE,
safe (log 8). -/
def drawValue (n : Nat) (s : State) : Nat := (s.draws.headD (Config.freeDraw s.drawCount)) % 2 ^ n

/-- The draw is taken. -/
def takeDraw (s : State) : State := { s with draws := s.draws.tail, drawCount := s.drawCount + 1 }

/-- The core takes a transaction: the word and the data stand on the port (30 R44). -/
def present (cmd : CmdWord) (wdata : Word) (rest : List HostMove) (s : State) : State :=
  { s with cmd := cmd, wdata := wdata, inbox := rest }

/-- The reset move (70 R140): the table of 10 R30. Configuration is not affected, and the host and the random source
are outside the machine (log 10). -/
def resetMove (rest : List HostMove) (s : State) : State :=
  { State.reset with cfg := s.cfg, inbox := rest, draws := s.draws, drawCount := s.drawCount }

/-- Nothing is presented: "between transactions the core holds its state and does nothing" (60 R135, log 7). -/
def idle (s : State) : State := s

/-- The host presents one more transaction, to be taken before all others (log 6). -/
def presentNext (cmd : CmdWord) (s : State) : State := { s with inbox := .transaction cmd s.wdata :: s.inbox }

end Sys2Proof.Machine
end

