-- ==== Sys2Proof/Machine/Feistel.lean ====
section
/-!
DEFINITION. The block cipher's commands KEYSET, KEYDRV, FENC, FDEC (spec 44 R99 to R102).
-/

namespace Sys2Proof.Machine

/-- KEY, K1, K2 from a 10-bit key, and `KEYV <- 1` (44 R99, R100). -/
def loadKey (k : BitVec 10) (s : State) : State :=
  setKey k (subkeys s.cfg.tables k).1 (subkeys s.cfg.tables k).2 s

/-- KEYSET ra (44 R99). -/
def execKeyset (ra : Reg) (s : State) : Result :=
  let v := readReg ra s
  if 1024 ≤ v then trap .keyWidth s else complete (loadKey (keyOf v) s)

/-- KEYDRV ra (44 R100): the key is `x[ra] mod 1024`. -/
def execKeydrv (ra : Reg) (s : State) : Result := complete (loadKey (keyOf (readReg ra s)) s)

/-- The checks of a raw block command, in order: NO_KEY, BLOCK_RANGE (44 R101, R102). -/
def blockFault (s : State) (b : Word) : Option Cause :=
  if s.keyv = false then some .noKey else if 256 ≤ b then some .blockRange else none

/-- FENC rd, ra (44 R101). -/
def execFenc (rd ra : Reg) (s : State) : Result :=
  let b := readReg ra s
  match blockFault s b with
  | some c => trap c s
  | none => complete (writeReg rd (zext (encryptBlock s.cfg.tables (blockOf b) s.k1 s.k2)) s)

/-- FDEC rd, ra (44 R102). -/
def execFdec (rd ra : Reg) (s : State) : Result :=
  let b := readReg ra s
  match blockFault s b with
  | some c => trap c s
  | none => complete (writeReg rd (zext (decryptBlock s.cfg.tables (blockOf b) s.k1 s.k2)) s)

end Sys2Proof.Machine
end

