-- ==== Sys2Proof/Machine/HostCmd.lean ====
section
/-!
DEFINITION. The host commands NOP, WR, RD, CSRR, ERRACK (spec 40 R55 to R59).
-/

namespace Sys2Proof.Machine

/-- NOP (40 R55). -/
def execNop (s : State) : Result := complete s

/-- WR rd (40 R56): `x[rd] <- wdata`. -/
def execWr (rd : Reg) (s : State) : Result := complete (writeReg rd s.wdata s)

/-- RD ra (40 R57): `rdata <- x[ra]`. -/
def execRd (ra : Reg) (s : State) : Result := .next (respond (readReg ra s) s)

/-- CSRR csr (40 R58): `rdata <- zext_W(CSR[imm8])`. -/
def execCsrr (csr : Csr) (s : State) : Result := .next (respond (readCsr csr s) s)

/-- ERRACK (40 R59): the return from the fault state. -/
def execErrack (s : State) : Result := complete (acknowledge s)

end Sys2Proof.Machine
end

