-- ==== Sys2Proof/Machine/Modes.lean ====
section
/-!
DEFINITION. The ECB/CBC mode controller's commands SETMODE, IVSET, IVGEN, MSTART, CENC, CDEC (spec 45 R106 to R111).
-/

namespace Sys2Proof.Machine

/-- SETMODE mode (45 R106). -/
def execSetmode (mode : CipherMode) (s : State) : Result := complete (setMode mode s)

/-- IVSET ra (45 R107). -/
def execIvset (ra : Reg) (s : State) : Result :=
  let v := readReg ra s
  if 256 ≤ v then trap .blockRange s else complete (setIv (blockOf v) s)

/-- IVGEN (45 R108): an 8-bit draw. -/
def execIvgen (s : State) : Result := complete (setIv (BitVec.ofNat 8 (drawValue 8 s)) (takeDraw s))

/-- MSTART (45 R109): in ECB mode nothing; in CBC mode `CHAIN <- IV`. -/
def execMstart (s : State) : Result :=
  match s.mode with
  | .ecb => complete s
  | .cbc => if s.ivv = false then trap .noIv s else complete (setChain s.iv s)

/-- The checks of a mode command, in order: NO_KEY, NO_IV in CBC mode, BLOCK_RANGE (45 R110, R111). -/
def modeFault (s : State) (b : Word) : Option Cause :=
  if s.keyv = false then some .noKey
  else if s.mode = .cbc ∧ s.ivv = false then some .noIv
  else if 256 ≤ b then some .blockRange
  else none

/-- CENC rd, ra (45 R110). -/
def execCenc (rd ra : Reg) (s : State) : Result :=
  let b := readReg ra s
  match modeFault s b, s.mode with
  | some c, _ => trap c s
  | none, .ecb => complete (writeReg rd (zext (encryptBlock s.cfg.tables (blockOf b) s.k1 s.k2)) s)
  | none, .cbc =>
    let c := encryptBlock s.cfg.tables (blockOf b ^^^ s.chain) s.k1 s.k2
    complete (writeReg rd (zext c) (setChain c s))

/-- CDEC rd, ra (45 R111): the old CHAIN is used before the ciphertext block replaces it. -/
def execCdec (rd ra : Reg) (s : State) : Result :=
  let c := readReg ra s
  match modeFault s c, s.mode with
  | some e, _ => trap e s
  | none, .ecb => complete (writeReg rd (zext (decryptBlock s.cfg.tables (blockOf c) s.k1 s.k2)) s)
  | none, .cbc =>
    complete (writeReg rd (zext (decryptBlock s.cfg.tables (blockOf c) s.k1 s.k2 ^^^ s.chain)) (setChain (blockOf c) s))

end Sys2Proof.Machine
end

