-- ==== Sys2Proof/Machine/Arith.lean ====
section
/-!
DEFINITION. The pure functions of the arithmetic units, as the spec's pseudocode computes them: the widening multiplier
(41 R65), the exponentiation engine (42 R69), gcd and inverse (43 R74, R76), generator search (R78), RSA derivation
(R80). `w` is the width W. A loop that the pseudocode leaves by a test recurses on a bound the spec gives (70 R151,
log 14).
-/

namespace Sys2Proof.Machine

/-- `zext_2W(a) * zext_2W(b)`, the product in 2W bits (41 R65). -/
def wideProduct (w a b : Nat) : BitVec (2 * w) := BitVec.ofNat (2 * w) a * BitVec.ofNat (2 * w) b

/-- `mulmod(a, b, m)` (41 R65): the low W bits of the remainder of the wide product. -/
def mulmod (w a b m : Nat) : Word := ((wideProduct w a b).toNat % m) % 2 ^ w

/-- The loop of `powmod` over the exponent bits `i-1 .. 0` (42 R69). -/
def powmodBits (w b exp m : Nat) : Nat → Nat → Nat
  | 0, acc => acc
  | i + 1, acc =>
    let sq := mulmod w acc acc m
    powmodBits w b exp m i (if exp.testBit i then mulmod w sq b m else sq)

/-- `powmod(base, exp, m)` (42 R69): from bit W-1 down, starting at `1 mod m`. -/
def powmod (w base exp m : Nat) : Word := powmodBits w (base % m) exp m w (1 % m)

/-- The loop of `gcd` (43 R74). -/
def euclidLoop : Nat → Nat → Nat → Nat
  | 0, a, _ => a
  | k + 1, a, b => if b = 0 then a else euclidLoop k b (a % b)

/-- `gcd(a, b)` (43 R74); the second operand strictly decreases, so `b + 1` rounds suffice (70 R151). -/
def euclidGcd (a b : Nat) : Word := euclidLoop (b + 1) a b

/-- The loop of `modinv` on `(r0, r1)` and the signed `(t0, t1)`; answers `(r0, t0)` (43 R76). -/
def modinvLoop : Nat → Nat → Nat → Int → Int → Nat × Int
  | 0, r0, _, t0, _ => (r0, t0)
  | k + 1, r0, r1, t0, t1 =>
    if r1 = 0 then (r0, t0) else modinvLoop k r1 (r0 - r0 / r1 * r1) t1 (t0 - (r0 / r1 : Nat) * t1)

/-- `modinv(a, m)`, `none` where there is no inverse (43 R76). -/
def modinv (a m : Nat) : Option Word :=
  let r := modinvLoop (a % m + 1) m (a % m) 0 1
  if r.1 = 1 then some (r.2 % (m : Int)).toNat else none

/-- The inner loop of `findgen`: `k` more powers of `g`, the next one `v`, those before it `seen` (43 R78). -/
def powersDistinct (w g p : Nat) : Nat → Nat → List Nat → Bool
  | 0, _, _ => true
  | k + 1, v, seen => if v = 0 ∨ v ∈ seen then false else powersDistinct w g p k (mulmod w v g p) (v :: seen)

/-- The outer loop of `findgen`: `k` more candidates, the next one `g` (43 R78). -/
def findgenFrom (w p : Nat) : Nat → Nat → Option Word
  | 0, _ => none
  | k + 1, g => if powersDistinct w g p (p - 1) g [] then some g else findgenFrom w p k (g + 1)

/-- `findgen(p)`: candidates 2 .. p-1 in increasing order (43 R78). -/
def findgen (w p : Nat) : Option Word := findgenFrom w p (p - 2) 2

/-- The least odd candidate from `c` on, below `totient`, coprime to it (43 R80); `k` bounds the rounds. -/
def oddCoprimeFrom (totient : Nat) : Nat → Nat → Option Nat
  | 0, _ => none
  | k + 1, c => if c < totient then (if euclidGcd c totient = 1 then some c else oddCoprimeFrom totient k (c + 2)) else none

/-- The exponent choice of 43 R80: the default on the gcd test alone, else the search from 3. -/
def chooseExponent (eDefault totient : Nat) : Option Nat :=
  if euclidGcd eDefault totient = 1 then some eDefault else oddCoprimeFrom totient totient 3

/-- The results of `rsa_derive` (43 R80). -/
structure RsaKey where
  n : Word
  totient : Word
  e : Word
  d : Word
  deriving DecidableEq, Repr

/-- `rsa_derive(p, q)` (43 R80), its checks in the order written there. `d` is never none, since
`gcd(e, totient) = 1` (log 14). -/
def rsaDerive (c : Config) (p q : Nat) : Except Cause RsaKey :=
  if p = q then .error .equalPrimes
  else if p < 2 ∨ q < 2 then .error .zeroModulus
  else if 2 ^ c.w ≤ (wideProduct c.w p q).toNat then .error .rangeOverflow
  else
    let totient := (p - 1) * (q - 1)
    match chooseExponent c.eDefault totient with
    | none => .error .noExponent
    | some e => .ok ⟨(wideProduct c.w p q).toNat % 2 ^ c.w, totient, e, (modinv e totient).getD 0⟩

end Sys2Proof.Machine
end

