-- ==== Sys2Proof/Machine/MulMod.lean ====
section
/-!
DEFINITION. The modular multiplier's command (spec 41 R66).
-/

namespace Sys2Proof.Machine

/-- MULMOD rd, ra, rb, rm (41 R66). -/
def execMulmod (rd ra rb rm : Reg) (s : State) : Result :=
  let m := readReg rm s
  if m = 0 then trap .zeroModulus s
  else complete (writeReg rd (mulmod s.cfg.w (readReg ra s) (readReg rb s) m) s)

end Sys2Proof.Machine
end

