-- ==== Sys2Proof/Machine/Pool.lean ====
section
/-!
DEFINITION. The prime-pool commands POOLCLR, POOLPUSH, POOLRD, SAMPLE (spec 43 R82 to R85, 20 R33).
-/

namespace Sys2Proof.Machine

/-- POOLCLR (43 R82): the words keep their contents. -/
def execPoolclr (s : State) : Result := complete (setPoolLen 0 s)

/-- POOLPUSH ra (43 R83). -/
def execPoolpush (ra : Reg) (s : State) : Result :=
  if s.poolLen = s.cfg.poolCap then trap .poolFull s
  else complete (setPoolLen (s.poolLen + 1) (poolWrite s.poolLen (readReg ra s) s))

/-- POOLRD rd, ra (43 R84). -/
def execPoolrd (rd ra : Reg) (s : State) : Result :=
  let i := readReg ra s
  if s.poolLen ≤ i then trap .poolIndex s else complete (writeReg rd (poolRead i s) s)

/-- SAMPLE rd (43 R85): the sentinel 0 and no draw where the pool is empty. -/
def execSample (rd : Reg) (s : State) : Result :=
  if s.poolLen = 0 then complete (setEmpty true (writeReg rd 0 s))
  else complete (setEmpty false (writeReg rd (poolRead (drawValue s.cfg.w s % s.poolLen) s) (takeDraw s)))

end Sys2Proof.Machine
end

