-- ==== Sys2Proof/Machine/PowMod.lean ====
section
/-!
DEFINITION. The modular exponentiation engine's command (spec 42 R70, R71).
-/

namespace Sys2Proof.Machine

/-- POWMOD rd, ra, rb, rm [, neg] (42 R70): a zero modulus is reported before a negative exponent. -/
def execPowmod (rd ra rb rm : Reg) (neg : Bool) (s : State) : Result :=
  let m := readReg rm s
  if m = 0 then trap .zeroModulus s
  else if neg then trap .negExponent s
  else complete (writeReg rd (powmod s.cfg.w (readReg ra s) (readReg rb s) m) s)

end Sys2Proof.Machine
end

