-- ==== Sys2Proof/Machine/PrimeMath.lean ====
section
/-!
DEFINITION. The prime-arithmetic commands GCD, MODINV, FINDGEN, RSAGEN (spec 43 R75, R77, R79, R81). There is no
primality test (43 R86).
-/

namespace Sys2Proof.Machine

/-- GCD rd, ra, rb (43 R75). -/
def execGcd (rd ra rb : Reg) (s : State) : Result := complete (writeReg rd (euclidGcd (readReg ra s) (readReg rb s)) s)

/-- MODINV rd, ra, rm (43 R77). -/
def execModinv (rd ra rm : Reg) (s : State) : Result :=
  let m := readReg rm s
  if m = 0 then trap .zeroModulus s
  else
    match modinv (readReg ra s) m with
    | none => trap .notInvertible s
    | some d => complete (writeReg rd d s)

/-- FINDGEN rd, ra (43 R79): where no candidate qualifies it writes the sentinel 0 and raises (60 R123). -/
def execFindgen (rd ra : Reg) (s : State) : Result :=
  let p := readReg ra s
  if p = 0 then trap .zeroModulus s
  else
    match findgen s.cfg.w p with
    | none => trap .noGenerator (writeReg rd 0 s)
    | some g => complete (writeReg rd g s)

/-- RSAGEN rd, ra, rb (43 R81): n, totient, e, d to four consecutive registers, the sources read before (10 R14). -/
def execRsagen (rd ra rb : Reg) (s : State) : Result :=
  match rsaDerive s.cfg (readReg ra s) (readReg rb s) with
  | .error c => trap c s
  | .ok k =>
    complete (writeReg (regAfter rd 3) k.d (writeReg (regAfter rd 2) k.e (writeReg (regAfter rd 1) k.totient
      (writeReg rd k.n s))))

end Sys2Proof.Machine
end

