-- ==== Sys2Proof/Machine/Dispatch.lean ====
section
/-!
DEFINITION. One arm per command (spec 30 R47): the meaning of each, the fault filter and the decoder having passed
(40, template; log 11).
-/

namespace Sys2Proof.Machine

/-- Execute one decoded command. -/
def exec (i : Instr) (s : State) : Host.Outcome State Fault Refusal :=
  match i with
  | .nop => Sys2Proof.Machine.execNop s
  | .wr rd => Sys2Proof.Machine.execWr rd s
  | .rd ra => Sys2Proof.Machine.execRd ra s
  | .csrr csr => Sys2Proof.Machine.execCsrr csr s
  | .errack => Sys2Proof.Machine.execErrack s
  | .mulmod rd ra rb rm => Sys2Proof.Machine.execMulmod rd ra rb rm s
  | .powmod rd ra rb rm neg => Sys2Proof.Machine.execPowmod rd ra rb rm neg s
  | .gcd rd ra rb => Sys2Proof.Machine.execGcd rd ra rb s
  | .modinv rd ra rm => Sys2Proof.Machine.execModinv rd ra rm s
  | .findgen rd ra => Sys2Proof.Machine.execFindgen rd ra s
  | .rsagen rd ra rb => Sys2Proof.Machine.execRsagen rd ra rb s
  | .poolclr => Sys2Proof.Machine.execPoolclr s
  | .poolpush ra => Sys2Proof.Machine.execPoolpush ra s
  | .poolrd rd ra => Sys2Proof.Machine.execPoolrd rd ra s
  | .sample rd => Sys2Proof.Machine.execSample rd s
  | .keyset ra => Sys2Proof.Machine.execKeyset ra s
  | .keydrv ra => Sys2Proof.Machine.execKeydrv ra s
  | .fenc rd ra => Sys2Proof.Machine.execFenc rd ra s
  | .fdec rd ra => Sys2Proof.Machine.execFdec rd ra s
  | .setmode mode => Sys2Proof.Machine.execSetmode mode s
  | .ivset ra => Sys2Proof.Machine.execIvset ra s
  | .ivgen => Sys2Proof.Machine.execIvgen s
  | .mstart => Sys2Proof.Machine.execMstart s
  | .cenc rd ra => Sys2Proof.Machine.execCenc rd ra s
  | .cdec rd ra => Sys2Proof.Machine.execCdec rd ra s

end Sys2Proof.Machine
end

