-- ==== Sys2Proof/Machine/Step.lean ====
section
/-!
DEFINITION. One step: the core takes the host's next move (spec 10 R17, 40 R60, 60 R124, 70 R140, R150).
-/

namespace Sys2Proof.Machine

/-- One atomic step per transaction (70 R150). -/
def step (s : State) : Host.Outcome State Fault Refusal :=
  match s.inbox with
  | [] => .next (idle s)
  | .reset :: rest => .next (resetMove rest s)
  | .transaction cmd wdata :: rest =>
    match filterWord (decode cmd) (present cmd wdata rest s) with
    | .answered t => .next t
    | .execute i t => exec i t

/-- The state in which the host's next move is the transaction of that word (log 6). -/
def State.withFetchWord (s : State) (nbits w : Nat) : State := presentNext (tableWord nbits w) s

end Sys2Proof.Machine
end

