-- ==== Sys2Proof/Safety.lean ====
section
/-!
DEFINITION. The words claims about NSP2 CORE are stated in: the invariant of the state, the state changes the rules
write, which registers a command names (spec 10 R13), a host's run and when it is clean (70 R152), positions of bits
(44 R91, R93), and a message of the mode controller (45 R113).
-/

namespace Sys2Proof.Machine

/-- Every value the host presents has its width (30 R44). -/
def HostMove.fits (w : Nat) : HostMove → Prop
  | .transaction _ wdata => Fits w wdata
  | .reset => True

/-- What every reachable state of the machine satisfies. -/
structure State.Inv (s : State) : Prop where
  /-- the parameters meet 00 R6 and 44 R90 -/
  cfgWellFormed : s.cfg.wellFormed = true
  /-- every register holds a W-bit value (10 R11, R16) -/
  regsFit : ∀ r : Reg, Fits s.cfg.w s.x[r]
  /-- the pool's cells keep their canonical form -/
  poolCanonical : Memory.wf s.pool
  /-- no word lies at or above POOLCAP (20 R33), and each is a W-bit value (20 R32) -/
  poolFits : ∀ c ∈ s.pool, c.1 < s.cfg.poolCap ∧ Fits s.cfg.w c.2
  /-- `0 <= POOLLEN <= POOLCAP` (10 R25) -/
  poolLenBound : s.poolLen ≤ s.cfg.poolCap
  /-- `ECAUSE = 0` and `ECMD = 0` when `FAULT = 0` (10 R20, R21) -/
  quiet : s.fault = false → s.ecause = 0 ∧ s.ecmd = 0
  /-- while `FAULT = 1`, ECAUSE holds one of the fourteen codes (60 R121) -/
  causeKnown : s.fault = true → ∃ c : Cause, s.ecause = c.code
  /-- "whenever `KEYV = 1`, `(K1, K2) = subkeys(KEY)`" (10 R22) -/
  keyLoaded : s.keyv = true → (s.k1, s.k2) = subkeys s.cfg.tables s.key
  /-- with `KEYV = 0`, KEY, K1, K2 hold their reset value 0 (10 R22) -/
  keyAbsent : s.keyv = false → s.key = 0 ∧ s.k1 = 0 ∧ s.k2 = 0
  /-- with `IVV = 0`, IV and CHAIN hold their reset value 0 (10 R23) -/
  ivAbsent : s.ivv = false → s.iv = 0 ∧ s.chain = 0
  /-- the values on the port and those the host will present have their width (30 R44) -/
  wdataFits : Fits s.cfg.w s.wdata
  inboxFits : ∀ m ∈ s.inbox, m.fits s.cfg.w
  rdataFits : ∀ a, s.answer = some a → Fits s.cfg.w a.rdata

/-- `x[r] <- v`, the register counting as written. -/
def State.wrote (s : State) (r : Reg) (v : Word) : State :=
  { s with x := s.x.set r v, written := s.written.set r true }

/-- The answer `resp = OK` with `rdata`. -/
def State.answered (s : State) (rdata : Word) : State := { s with answer := some ⟨.ok, rdata⟩ }

/-- The state of a raised error of that code (60 R122). -/
def State.faulted (s : State) (code : BitVec 8) : State :=
  { s with fault := true, ecause := code, ecmd := s.cmd, answer := some ⟨.err, 0⟩ }

/-- The answer `resp = REJ`. -/
def State.rejected (s : State) : State := { s with answer := some ⟨.rej, 0⟩ }

/-- The transaction has been taken from the host and stands on the port. -/
def State.took (s : State) (cmd : CmdWord) (wdata : Word) (rest : List HostMove) : State :=
  { s with cmd := cmd, wdata := wdata, inbox := rest }

/-- The "match" and "mask" columns of 30 R47, row by row. -/
def opcodeMap : List (CmdWord × CmdWord) :=
  [(0x00000000, 0xFFFFFFFF), (0x01000000, 0xFF0FFFFF), (0x02000000, 0xFFF0FFFF), (0x03000000, 0xFFFFFF00),
   (0x04000000, 0xFFFFFFFF), (0x10000000, 0xFF0000FF), (0x11000000, 0xFF0000FE), (0x20000000, 0xFF000FFF),
   (0x21000000, 0xFF00F0FF), (0x22000000, 0xFF00FFFF), (0x23000000, 0xFF300FFF), (0x28000000, 0xFFFFFFFF),
   (0x29000000, 0xFFF0FFFF), (0x2A000000, 0xFF00FFFF), (0x2B000000, 0xFF0FFFFF)] ++
  [(0x30000000, 0xFFF0FFFF), (0x31000000, 0xFFF0FFFF), (0x32000000, 0xFF00FFFF), (0x33000000, 0xFF00FFFF),
   (0x40000000, 0xFFFFFFFE), (0x41000000, 0xFFF0FFFF), (0x42000000, 0xFFFFFFFF), (0x43000000, 0xFFFFFFFF),
   (0x44000000, 0xFF00FFFF), (0x45000000, 0xFF00FFFF)]

/-- `(w AND mask) = match` and the constraint column holds: CSRR's `imm8 <= 10` (30 R47). -/
def matchesRow (w : CmdWord) (row : CmdWord × CmdWord) : Bool :=
  w &&& row.2 == row.1 && (row.1 != 0x03000000#32 || decide (imm8Field w ≤ 10))

/-- The general registers a command reads (10 R13). -/
def regsRead : Instr → List Reg
  | .mulmod _ ra rb rm | .powmod _ ra rb rm _ => [ra, rb, rm]
  | .gcd _ ra rb | .rsagen _ ra rb => [ra, rb]
  | .modinv _ ra rm => [ra, rm]
  | .rd ra | .findgen _ ra | .poolpush ra | .poolrd _ ra | .keyset ra | .keydrv ra | .ivset ra | .fenc _ ra | .fdec _ ra
  | .cenc _ ra | .cdec _ ra => [ra]
  | .wr _ | .sample _ | .nop | .csrr _ | .errack | .poolclr | .setmode _ | .ivgen | .mstart => []

/-- The general registers a command writes (10 R13). -/
def regsWritten : Instr → List Reg
  | .rsagen rd _ _ => [rd, rd + 1, rd + 2, rd + 3]
  | .wr rd | .mulmod rd _ _ _ | .powmod rd _ _ _ _ | .gcd rd _ _ | .modinv rd _ _ | .findgen rd _ | .poolrd rd _
  | .sample rd | .fenc rd _ | .fdec rd _ | .cenc rd _ | .cdec rd _ => [rd]
  | .rd _ | .poolpush _ | .keyset _ | .keydrv _ | .ivset _ | .nop | .csrr _ | .errack | .poolclr | .setmode _ | .ivgen
  | .mstart => []

/-- The causes a command can raise (60 R121). -/
def causesOf : Opcode → List (BitVec 8)
  | .mulmod => [0x11]
  | .powmod => [0x11, 0x12]
  | .modinv => [0x11, 0x16]
  | .findgen => [0x11, 0x51]
  | .rsagen => [0x13, 0x11, 0x15, 0x52]
  | .poolpush => [0x64]
  | .poolrd => [0x65]
  | .keyset => [0x14]
  | .fenc | .fdec => [0x62, 0x17]
  | .ivset => [0x17]
  | .mstart => [0x63]
  | .cenc | .cdec => [0x62, 0x63, 0x17]
  | .nop | .wr | .rd | .csrr | .errack | .gcd | .poolclr | .sample | .keydrv | .setmode | .ivgen => []

/-- The two states differ at most in the values of registers no command has written since reset (10 R15). -/
def AgreeOnWritten (s t : State) : Prop :=
  t = { s with x := t.x } ∧ ∀ r : Reg, s.written[r] = true → s.x[r] = t.x[r]

/-- The program's duty of 10 R15: every register the command reads has been written. -/
def ReadsWritten (i : Instr) (s : State) : Prop := ∀ r ∈ regsRead i, s.written[r] = true

/-- A run: the host's moves one after another, with the answers (70 R152). -/
def runMoves : List HostMove → State → List (Option Answer) × State
  | [], s => ([], s)
  | m :: ms, s =>
    match step { s with inbox := [m] } with
    | .next t => ((t.answer :: (runMoves ms t).1), (runMoves ms t).2)
    | .fault _ => ([], s)
    | .refused _ => ([], s)

/-- A run is clean "when its final state has `FAULT = 0` and no transaction answered `REJ`" (70 R152). -/
def CleanRun (ms : List HostMove) (s : State) : Prop :=
  (runMoves ms s).2.fault = false ∧ ∀ a, some a ∈ (runMoves ms s).1 → a.resp ≠ .rej

/-- The powers `g^1 .. g^(p-1)` modulo `p` are distinct and none is 0 (43 R78). -/
def PowersDistinct (p g : Nat) : Prop :=
  (∀ k, 1 ≤ k → k ≤ p - 1 → g ^ k % p ≠ 0) ∧
    ∀ j k, 1 ≤ j → j < k → k ≤ p - 1 → g ^ j % p ≠ g ^ k % p

/-- `g` is the first candidate in 2 .. p-1 that qualifies (43 R78). -/
def FirstGenerator (p g : Nat) : Prop :=
  2 ≤ g ∧ g ≤ p - 1 ∧ PowersDistinct p g ∧ ∀ h, 2 ≤ h → h < g → ¬PowersDistinct p h

/-- `c` is a candidate of the exponent search: odd, in `[3, totient)`, coprime to `totient` (43 R80). -/
def ExponentCandidate (totient c : Nat) : Prop := c % 2 = 1 ∧ 3 ≤ c ∧ c < totient ∧ Nat.gcd c totient = 1

/-- `e` is the exponent `rsa_derive` takes: the default where it is coprime, else the least candidate (43 R80). -/
def ChosenExponent (eDefault totient e : Nat) : Prop :=
  (Nat.gcd eDefault totient = 1 ∧ e = eDefault) ∨
    (Nat.gcd eDefault totient ≠ 1 ∧ ExponentCandidate totient e ∧ ∀ c, c < e → ¬ExponentCandidate totient c)

/-- Position `j` of a value: positions are counted from 1 at the most significant bit (44 R91). -/
def position {n : Nat} (v : BitVec n) (j : Nat) : Bool := v.getLsbD (n - j)

/-- Two 5-bit halves, each rotated left by `s` in all, stand side by side: the position, before the rotations, of what
stands at position `j` of the ten (44 R93). -/
def rotatedFrom (s j : Nat) : Nat := if j ≤ 5 then (j - 1 + s) % 5 + 1 else (j - 6 + s) % 5 + 6

/-- The host presents one command, with that data, and the core takes it. -/
def submit (i : Instr) (wdata : Word) (s : State) : Option State :=
  match step { s with inbox := [.transaction (encode i) wdata] } with
  | .next t => some t
  | .fault _ => none
  | .refused _ => none

/-- The blocks of a message through `op`, which is CENC rd, ra or CDEC rd, ra: the host writes each block to `x[ra]`,
presents `op`, and the result is what `x[rd]` then holds (45 R105). -/
def messageBlocks (op : Instr) (rd ra : Reg) : List Word → State → Option (List Word × State)
  | [], s => some ([], s)
  | b :: bs, s =>
    ((submit (.wr ra) b s).bind (submit op 0)).bind fun t =>
      (messageBlocks op rd ra bs t).map fun r => (readReg rd t :: r.1, r.2)

/-- A message: MSTART, then its blocks (45 R109, R113). -/
def message (op : Instr) (rd ra : Reg) (blocks : List Word) (s : State) : Option (List Word × State) :=
  (submit .mstart 0 s).bind (messageBlocks op rd ra blocks)

end Sys2Proof.Machine
end

