-- ==== Sys2Proof/Certificates/Slice0/Obligations.lean ====
section
/-!
DEFINITION. The statements for the provers. Each docstring names the rules of spec/ it formalises. `s.Inv` is the
invariant of Sys2Proof/Safety.lean; `StepKeepsInvariant` and `ResetStateMeetsInvariant` are the statements about it.
`took`, `wrote`, `answered`, `faulted` and `rejected` are written out in that file; `commandWord` is the formula of
30 R54.
-/

open Sys2Proof Sys2Proof.Machine

/-! ## Encoding -/

/-- 30 R54: decoding the word of a well-formed command gives that command, for every value of every field. -/
def Obligations.DecodeOfEncodeIsTheCommand : Prop :=
  ∀ i : Instr, i.wellFormed = true → decode (encode i) = .command i

/-- 30 R54: "Decoding then encoding a non-reserved word gives the same word". -/
def Obligations.EncodeOfDecodeIsTheWord : Prop :=
  ∀ (w : CmdWord) (i : Instr), decode w = .command i → encode i = w ∧ i.wellFormed = true

/-- 30 R50: every word decodes to a command exactly when some row of 30 R47 matches it, and at most one row does. -/
def Obligations.DecoderFollowsOpcodeMap : Prop :=
  ∀ w : CmdWord,
    ((∃ i, decode w = .command i) ↔ ∃ row ∈ opcodeMap, matchesRow w row = true) ∧
      (opcodeMap.filter (matchesRow w)).length ≤ 1

/-- 30 R48: a word that matches no row raises cause 0x61 while FAULT = 0 and is dropped while FAULT = 1. -/
def Obligations.ReservedEncodingsFaultOrAreDropped : Prop :=
  ∀ (s : State) (w : CmdWord) (d : Word) (rest : List HostMove), s.inbox = .transaction w d :: rest →
    (∀ row ∈ opcodeMap, matchesRow w row = false) →
    (s.fault = false → step s = .next ((s.took w d rest).faulted 0x61)) ∧
      (s.fault = true → step s = .next ((s.took w d rest).rejected))

/-- Words written out from the rows of 30 R47, one per family, and three reserved neighbours (95 section 2.7). -/
def Obligations.WrittenOutWordsDecode : Prop :=
  decode 0b00000001000100000000000000000000#32 = .command (.wr 1) ∧
  decode 0b00010000001100010010010000000000#32 = .command (.mulmod 3 1 2 4) ∧
  decode 0b00010001010000010010001100000001#32 = .command (.powmod 4 1 2 3 true) ∧
  decode 0b00100011110000010010000000000000#32 = .command (.rsagen 12 1 2) ∧
  decode 0b00101010001000010000000000000000#32 = .command (.poolrd 2 1) ∧
  decode 0b00110010001000010000000000000000#32 = .command (.fenc 2 1) ∧
  decode 0b01000100010000110000000000000000#32 = .command (.cenc 4 3) ∧
  decode 0b00000011000000000000000000001011#32 = .reserved .csrIndex ∧
  decode 0b01000000000000000000000000000010#32 = .reserved .fixedBitsNonzero ∧
  decode 0b11111111111111111111111111111111#32 = .reserved .unassignedOpcode

/-! ## The step, reset, faults -/

/-- A presented word that decodes to `i`, where the fault filter lets `i` pass, is executed by `exec i` on the state
with the word and the data on the port and the move taken from the host's list (30 R44, 60 R124). -/
def Obligations.StepExecutesTheDecodedCommand : Prop :=
  ∀ (s : State) (w : CmdWord) (d : Word) (rest : List HostMove) (i : Instr), s.inbox = .transaction w d :: rest →
    decode w = .command i → (s.fault = false ∨ i = .nop ∨ (∃ ra, i = .rd ra) ∨ (∃ c, i = .csrr c) ∨ i = .errack) →
    step s = exec i (s.took w d rest)

/-- 60 R135: with nothing presented "the core holds its state and does nothing". -/
def Obligations.IdleCoreHoldsItsState : Prop := ∀ s : State, s.inbox = [] → step s = .next s

/-- 10 R30: what reset leaves, whatever the state and the configuration; of `x` it says only that no register has been
written. -/
def Obligations.ResetGivesTheResetTable : Prop :=
  ∀ (s : State) (rest : List HostMove), s.inbox = .reset :: rest →
    ∃ t, step s = .next t ∧ t.fault = false ∧ t.keyv = false ∧ t.ivv = false ∧ t.mode = .ecb ∧ t.empty = false ∧
      t.ecause = 0 ∧ t.ecmd = 0 ∧ t.key = 0 ∧ t.k1 = 0 ∧ t.k2 = 0 ∧ t.iv = 0 ∧ t.chain = 0 ∧ t.poolLen = 0 ∧
      irq t = false ∧ (∀ r : Reg, t.written[r] = false) ∧ t.cfg = s.cfg ∧ t.inbox = rest

/-- The state after reset, in the default configuration, meets the invariant. -/
def Obligations.ResetStateMeetsInvariant : Prop := State.reset.Inv

/-- Every step keeps the invariant: W-bit registers and pool words (10 R11, R16), the bounds of the pool (10 R25,
20 R33), the canonical form of the memory, ECAUSE and ECMD zero exactly without a fault and otherwise a known cause
(10 R20, R21), the subkeys of the loaded key (10 R22), KEY, IV, CHAIN zero until loaded (10 R22, R23). -/
def Obligations.StepKeepsInvariant : Prop := ∀ s t : State, s.Inv → step s = .next t → t.Inv

/-- Every step, from every state, answers a next state: the decoder is total and every command terminates (30 R50,
70 R151). -/
def Obligations.StepAlwaysAnswersNext : Prop := ∀ s : State, ∃ t, step s = .next t

/-- 60 R124: the fault filter. -/
def Obligations.FaultFilterDropsAllButFour : Prop :=
  ∀ (s : State) (w : CmdWord) (d : Word) (rest : List HostMove), s.inbox = .transaction w d :: rest →
    (s.fault = true →
      ((∃ i, decode w = .command i ∧ (i = .nop ∨ (∃ ra, i = .rd ra) ∨ (∃ c, i = .csrr c) ∨ i = .errack)) →
        ∃ i t v, decode w = .command i ∧ step s = exec i (s.took w d rest) ∧ step s = .next t ∧
          t.answer = some ⟨.ok, v⟩) ∧
      ((¬∃ i, decode w = .command i ∧ (i = .nop ∨ (∃ ra, i = .rd ra) ∨ (∃ c, i = .csrr c) ∨ i = .errack)) →
        step s = .next ((s.took w d rest).rejected))) ∧
    (s.fault = false →
      (∀ i, decode w = .command i → step s = exec i (s.took w d rest)) ∧
      (∀ why, decode w = .reserved why → step s = .next ((s.took w d rest).faulted 0x61)))

/-- 60 R125: out of the fault state only ERRACK or reset leads; until then ECAUSE and ECMD stay as they are. -/
def Obligations.OnlyErrackOrResetEndsAFault : Prop :=
  ∀ s t : State, s.fault = true → step s = .next t →
    (t.fault = true ∧ t.ecause = s.ecause ∧ t.ecmd = s.ecmd) ∨
      (∃ rest, s.inbox = .reset :: rest) ∨
      ∃ d rest, s.inbox = .transaction 0x04000000 d :: rest ∧
        t = { s.took 0x04000000 d rest with fault := false, ecause := 0, ecmd := 0, answer := some ⟨.ok, 0⟩ }

/-- 60 R122 with the codes of 60 R121: what `raise` writes, and that it writes nothing else. -/
def Obligations.RaiseWritesFaultCauseAndWord : Prop :=
  ∀ s : State,
    raise .zeroModulus s = s.faulted 0x11 ∧ raise .negExponent s = s.faulted 0x12 ∧
    raise .equalPrimes s = s.faulted 0x13 ∧ raise .keyWidth s = s.faulted 0x14 ∧
    raise .rangeOverflow s = s.faulted 0x15 ∧ raise .notInvertible s = s.faulted 0x16 ∧
    raise .blockRange s = s.faulted 0x17 ∧ raise .noGenerator s = s.faulted 0x51 ∧
    raise .noExponent s = s.faulted 0x52 ∧ raise .reservedEncoding s = s.faulted 0x61 ∧
    raise .noKey s = s.faulted 0x62 ∧ raise .noIv s = s.faulted 0x63 ∧
    raise .poolFull s = s.faulted 0x64 ∧ raise .poolIndex s = s.faulted 0x65

/-- 60 R123: a command that answers ERR has changed nothing but FAULT, ECAUSE, ECMD (and the answer); FINDGEN with
cause 0x51 has besides written the sentinel 0 to its destination. -/
def Obligations.FaultsArePrecise : Prop :=
  ∀ (i : Instr) (s t : State) (v : Word), exec i s = .next t → t.answer = some ⟨.err, v⟩ →
    (∃ code, t = s.faulted code ∧ code ≠ 0x51) ∨
      ∃ rd ra, i = .findgen rd ra ∧ t = (s.wrote rd 0).faulted 0x51

/-- 60 R121: each command either answers OK or raises one of the causes the table gives it; the commands the rule lists
as never raising always answer OK. -/
def Obligations.CommandsRaiseOnlyTheirCauses : Prop :=
  ∀ (i : Instr) (s t : State), exec i s = .next t →
    (∃ v, t.answer = some ⟨.ok, v⟩) ∨
      (t.answer = some ⟨.err, 0⟩ ∧ t.fault = true ∧ t.ecause ∈ causesOf i.opcode ∧ t.ecmd = s.cmd)

/-- 30 R44: every transaction is answered; `rdata` is 0 in every ERR and REJ answer and in every answer to a command
other than RD and CSRR. -/
def Obligations.EveryTransactionIsAnswered : Prop :=
  ∀ (s t : State) (w : CmdWord) (d : Word) (rest : List HostMove), s.inbox = .transaction w d :: rest →
    step s = .next t → t.inbox = rest ∧
      ∃ a, t.answer = some a ∧ (a.resp ≠ .ok → a.rdata = 0) ∧
        ((∀ r, decode w ≠ .command (.rd r)) → (∀ c, decode w ≠ .command (.csrr c)) → a.rdata = 0) ∧
        (a.resp = .rej → s.fault = true) ∧ (a.resp = .err → s.fault = false ∧ t.fault = true)

/-! ## Host commands -/

/-- 40 R55. -/
def Obligations.NopLeavesTheStateEqual : Prop :=
  decode 0x00000000#32 = .command .nop ∧
  (∀ s : State, exec .nop s = .next (s.answered 0)) ∧
  ∀ (s : State) (d : Word) (rest : List HostMove), s.inbox = .transaction 0x00000000 d :: rest →
    step s = .next ((s.took 0x00000000 d rest).answered 0)

/-- 40 R56. -/
def Obligations.WrWritesTheDataOperand : Prop :=
  (∀ rd : Reg, decode (commandWord 0x01 rd 0 0 0 0) = .command (.wr rd)) ∧
  (∀ (s : State) (rd : Reg), exec (.wr rd) s = .next ((s.wrote rd s.wdata).answered 0)) ∧
  ∀ (s : State) (rd : Reg) (d : Word) (rest : List HostMove),
    s.inbox = .transaction (commandWord 0x01 rd 0 0 0 0) d :: rest → s.fault = true →
    step s = .next ((s.took (commandWord 0x01 rd 0 0 0 0) d rest).rejected)

/-- 40 R57; that an unwritten register reads as a named value is the model's choice (log 3). -/
def Obligations.RdAnswersTheRegister : Prop :=
  (∀ ra : Reg, decode (commandWord 0x02 0 ra 0 0 0) = .command (.rd ra)) ∧
  (∀ (s : State) (ra : Reg), exec (.rd ra) s = .next (s.answered s.x[ra])) ∧
  ∀ (s : State) (ra : Reg) (d : Word) (rest : List HostMove),
    s.inbox = .transaction (commandWord 0x02 0 ra 0 0 0) d :: rest →
    step s = .next ((s.took (commandWord 0x02 0 ra 0 0 0) d rest).answered s.x[ra])

/-- 40 R58 over the table of 10 R26, with the STATUS bits of 10 R18. -/
def Obligations.CsrrAnswersTheControlRegister : Prop :=
  (∀ k : Fin 11, ∃ c : Csr, Csr.all[k]? = some c ∧ decode (commandWord 0x03 0 0 0 0 (BitVec.ofNat 8 k)) = .command (.csrr c)) ∧
  (∀ k : Nat, 11 ≤ k → k < 256 → ∃ why, decode (commandWord 0x03 0 0 0 0 (BitVec.ofNat 8 k)) = .reserved why) ∧
  (∀ s : State,
    exec (.csrr .status) s = .next (s.answered (s.fault.toNat + 2 * s.keyv.toNat + 4 * s.ivv.toNat +
      8 * (if s.mode = .cbc then 1 else 0) + 16 * s.empty.toNat)) ∧
    exec (.csrr .ecause) s = .next (s.answered s.ecause.toNat) ∧
    exec (.csrr .ecmd) s = .next (s.answered s.ecmd.toNat) ∧
    exec (.csrr .key) s = .next (s.answered s.key.toNat) ∧
    exec (.csrr .k1) s = .next (s.answered s.k1.toNat) ∧
    exec (.csrr .k2) s = .next (s.answered s.k2.toNat) ∧
    exec (.csrr .iv) s = .next (s.answered s.iv.toNat) ∧
    exec (.csrr .chain) s = .next (s.answered s.chain.toNat) ∧
    exec (.csrr .poollen) s = .next (s.answered s.poolLen) ∧
    exec (.csrr .poolcap) s = .next (s.answered s.cfg.poolCap) ∧
    exec (.csrr .width) s = .next (s.answered s.cfg.w)) ∧
  ∀ (s : State) (w : CmdWord) (c : Csr) (d : Word) (rest : List HostMove), s.inbox = .transaction w d :: rest →
    decode w = .command (.csrr c) → step s = exec (.csrr c) (s.took w d rest)

/-- 40 R59. -/
def Obligations.ErrackClearsTheFaultRecord : Prop :=
  decode 0x04000000#32 = .command .errack ∧
  ∀ s : State,
    exec .errack s = .next { s with fault := false, ecause := 0, ecmd := 0, answer := some ⟨.ok, 0⟩ }

/-! ## Multiplier and exponentiation -/

/-- 41 R66 with 41 R65: the exact product modulo `m`, for every modulus that is not 0. -/
def Obligations.MulmodIsTheExactProductModulo : Prop :=
  (∀ rd ra rb rm : Reg, decode (commandWord 0x10 rd ra rb rm 0) = .command (.mulmod rd ra rb rm)) ∧
  ∀ (s : State) (rd ra rb rm : Reg), s.Inv →
    (s.x[rm] ≠ 0 → exec (.mulmod rd ra rb rm) s = .next ((s.wrote rd (s.x[ra] * s.x[rb] % s.x[rm])).answered 0)) ∧
    (s.x[rm] = 0 → exec (.mulmod rd ra rb rm) s = .next (s.faulted 0x11))

/-- 41 R67: the laws of `mulmod` on W-bit operands and a modulus that is not 0; the last clause is "the only reduction
is `mod m`". -/
def Obligations.MulmodObeysTheLaws : Prop :=
  ∀ w a b c m : Nat, 32 ≤ w → Fits w a → Fits w b → Fits w c → Fits w m → m ≠ 0 →
    mulmod w a b m < m ∧ mulmod w a b m = mulmod w b a m ∧ mulmod w a b m = mulmod w (a % m) (b % m) m ∧
    mulmod w a 1 m = a % m ∧ mulmod w (mulmod w a b m) c m = mulmod w a (mulmod w b c m) m ∧
    mulmod w a b m = a * b % m

/-- 42 R70 with 42 R69, R71: `base^exp mod m` in the integers; the zero modulus reported before the negative exponent. -/
def Obligations.PowmodIsTheExactPowerModulo : Prop :=
  (∀ (rd ra rb rm : Reg) (neg : Bool),
    decode (commandWord 0x11 rd ra rb rm (if neg then 1 else 0)) = .command (.powmod rd ra rb rm neg)) ∧
  ∀ (s : State) (rd ra rb rm : Reg), s.Inv →
    (s.x[rm] ≠ 0 →
      exec (.powmod rd ra rb rm false) s = .next ((s.wrote rd (s.x[ra] ^ s.x[rb] % s.x[rm])).answered 0)) ∧
    (s.x[rm] ≠ 0 → exec (.powmod rd ra rb rm true) s = .next (s.faulted 0x12)) ∧
    (∀ neg, s.x[rm] = 0 → exec (.powmod rd ra rb rm neg) s = .next (s.faulted 0x11))

/-- 42 R72, DH symmetry, for every modulus and base, not only p = 23 and g = 5. -/
def Obligations.DiffieHellmanIsSymmetric : Prop :=
  ∀ w g a b p : Nat, Fits w g → Fits w a → Fits w b → Fits w p → p ≠ 0 →
    powmod w (powmod w g a p) b p = powmod w (powmod w g b p) a p

/-! ## Prime arithmetic -/

/-- 43 R75 with 43 R74: the greatest common divisor, `gcd(0, 0) = 0`, of every operand pair. -/
def Obligations.GcdIsTheGreatestCommonDivisor : Prop :=
  (∀ rd ra rb : Reg, decode (commandWord 0x20 rd ra rb 0 0) = .command (.gcd rd ra rb)) ∧
  ∀ (s : State) (rd ra rb : Reg), exec (.gcd rd ra rb) s = .next ((s.wrote rd (Nat.gcd s.x[ra] s.x[rb])).answered 0)

/-- 43 R77 with 43 R76: the one inverse in `[0, m)` where there is one, else cause 0x16; cause 0x11 for m = 0. -/
def Obligations.ModinvIsTheInverseOrFaults : Prop :=
  (∀ rd ra rm : Reg, decode (commandWord 0x21 rd ra 0 rm 0) = .command (.modinv rd ra rm)) ∧
  ∀ (s : State) (rd ra rm : Reg),
    (s.x[rm] ≠ 0 → ∀ d, d < s.x[rm] → s.x[ra] * d % s.x[rm] = 1 % s.x[rm] →
      exec (.modinv rd ra rm) s = .next ((s.wrote rd d).answered 0)) ∧
    (s.x[rm] ≠ 0 → Nat.gcd (s.x[ra] % s.x[rm]) s.x[rm] = 1 → ∃ d, d < s.x[rm] ∧ s.x[ra] * d % s.x[rm] = 1 % s.x[rm]) ∧
    (s.x[rm] ≠ 0 → Nat.gcd (s.x[ra] % s.x[rm]) s.x[rm] ≠ 1 → exec (.modinv rd ra rm) s = .next (s.faulted 0x16)) ∧
    (s.x[rm] = 0 → exec (.modinv rd ra rm) s = .next (s.faulted 0x11))

/-- 43 R79 with the search of 43 R78: the first candidate that qualifies; else the sentinel and cause 0x51. -/
def Obligations.FindgenAnswersTheFirstGenerator : Prop :=
  (∀ rd ra : Reg, decode (commandWord 0x22 rd ra 0 0 0) = .command (.findgen rd ra)) ∧
  ∀ (s : State) (rd ra : Reg), s.Inv →
    (s.x[ra] ≠ 0 → ∀ g, FirstGenerator s.x[ra] g → exec (.findgen rd ra) s = .next ((s.wrote rd g).answered 0)) ∧
    (s.x[ra] ≠ 0 → (¬∃ g, FirstGenerator s.x[ra] g) →
      exec (.findgen rd ra) s = .next ((s.wrote rd 0).faulted 0x51)) ∧
    (s.x[ra] = 0 → exec (.findgen rd ra) s = .next (s.faulted 0x11))

/-- 43 R78, "Equivalently": for a W-bit p that is not 0, `findgen(p)` finds a generator exactly when p is prime and
p >= 3, and what it finds is the least g in [2, p-1] of multiplicative order p-1. -/
def Obligations.FindgenSucceedsExactlyOnOddPrimes : Prop :=
  ∀ w p : Nat, 32 ≤ w → Fits w p → p ≠ 0 →
    ((∃ g, findgen w p = some g) ↔ p.Prime ∧ 3 ≤ p) ∧
      ∀ g, findgen w p = some g → 2 ≤ g ∧ g ≤ p - 1 ∧ orderOf (g : ZMod p) = p - 1 ∧
        ∀ h : Nat, 2 ≤ h → h < g → orderOf (h : ZMod p) ≠ p - 1

/-- 43 R81 with 43 R80: the checks in their order, and the four results. -/
def Obligations.RsagenDerivesTheKeyPair : Prop :=
  (∀ rd ra rb : Reg, rd.val % 4 = 0 → decode (commandWord 0x23 rd ra rb 0 0) = .command (.rsagen rd ra rb)) ∧
  ∀ (s : State) (rd ra rb : Reg), s.Inv → rd.val % 4 = 0 →
    (s.x[ra] = s.x[rb] → exec (.rsagen rd ra rb) s = .next (s.faulted 0x13)) ∧
    (s.x[ra] ≠ s.x[rb] → s.x[ra] < 2 ∨ s.x[rb] < 2 → exec (.rsagen rd ra rb) s = .next (s.faulted 0x11)) ∧
    (s.x[ra] ≠ s.x[rb] → 2 ≤ s.x[ra] → 2 ≤ s.x[rb] → 2 ^ s.cfg.w ≤ s.x[ra] * s.x[rb] →
      exec (.rsagen rd ra rb) s = .next (s.faulted 0x15)) ∧
    (s.x[ra] ≠ s.x[rb] → 2 ≤ s.x[ra] → 2 ≤ s.x[rb] → s.x[ra] * s.x[rb] < 2 ^ s.cfg.w →
      (¬∃ e, ChosenExponent s.cfg.eDefault ((s.x[ra] - 1) * (s.x[rb] - 1)) e) →
      exec (.rsagen rd ra rb) s = .next (s.faulted 0x52)) ∧
    (s.x[ra] ≠ s.x[rb] → 2 ≤ s.x[ra] → 2 ≤ s.x[rb] → s.x[ra] * s.x[rb] < 2 ^ s.cfg.w →
      ∀ e, ChosenExponent s.cfg.eDefault ((s.x[ra] - 1) * (s.x[rb] - 1)) e →
      ∃ d, d < (s.x[ra] - 1) * (s.x[rb] - 1) ∧
        d * e % ((s.x[ra] - 1) * (s.x[rb] - 1)) = 1 % ((s.x[ra] - 1) * (s.x[rb] - 1)) ∧
        exec (.rsagen rd ra rb) s = .next (((((s.wrote rd (s.x[ra] * s.x[rb])).wrote (rd + 1)
          ((s.x[ra] - 1) * (s.x[rb] - 1))).wrote (rd + 2) e).wrote (rd + 3) d).answered 0))

/-- 42 R72, RSA round trip: whatever key pair `rsa_derive` gives for two primes, decryption undoes encryption on every
message below n. -/
def Obligations.RsaRoundTrip : Prop :=
  ∀ (c : Config) (p q : Nat) (k : RsaKey), c.wellFormed = true → Fits c.w p → Fits c.w q → p.Prime → q.Prime →
    rsaDerive c p q = .ok k →
    ∀ m, m < k.n → powmod c.w (powmod c.w m k.e k.n) k.d k.n = m

/-! ## The pool -/

/-- 43 R82. -/
def Obligations.PoolclrEmptiesThePool : Prop :=
  decode 0x28000000#32 = .command .poolclr ∧
  ∀ s : State, exec .poolclr s = .next ({ s with poolLen := 0 }.answered 0)

/-- 43 R83: the word is appended at POOLLEN and every other word stays; cause 0x64 on a full pool. -/
def Obligations.PoolpushAppendsOrFaults : Prop :=
  (∀ ra : Reg, decode (commandWord 0x29 0 ra 0 0 0) = .command (.poolpush ra)) ∧
  ∀ (s : State) (ra : Reg),
    (s.poolLen ≠ s.cfg.poolCap → ∃ m : Memory,
      exec (.poolpush ra) s = .next ({ s with pool := m, poolLen := s.poolLen + 1 }.answered 0) ∧
      ∀ j, poolRead j { s with pool := m } = if j = s.poolLen then s.x[ra] else poolRead j s) ∧
    (s.poolLen = s.cfg.poolCap → exec (.poolpush ra) s = .next (s.faulted 0x64))

/-- 43 R84. -/
def Obligations.PoolrdReadsOrFaults : Prop :=
  (∀ rd ra : Reg, decode (commandWord 0x2A rd ra 0 0 0) = .command (.poolrd rd ra)) ∧
  ∀ (s : State) (rd ra : Reg),
    (s.x[ra] < s.poolLen → exec (.poolrd rd ra) s = .next ((s.wrote rd (poolRead s.x[ra] s)).answered 0)) ∧
    (s.poolLen ≤ s.x[ra] → exec (.poolrd rd ra) s = .next (s.faulted 0x65))

/-- 43 R85: the sentinel and EMPTY on an empty pool, with no draw taken; else the word at `r mod POOLLEN` of the W-bit
draw `r`, which is the host's next injected one where there is one. It never faults. -/
def Obligations.SamplePicksByTheDraw : Prop :=
  (∀ rd : Reg, decode (commandWord 0x2B rd 0 0 0 0) = .command (.sample rd)) ∧
  ∀ (s : State) (rd : Reg),
    (s.poolLen = 0 → exec (.sample rd) s = .next ({ s.wrote rd 0 with empty := true }.answered 0)) ∧
    (s.poolLen ≠ 0 → ∃ r, Fits s.cfg.w r ∧ (∀ d ds, s.draws = d :: ds → r = d % 2 ^ s.cfg.w) ∧
      exec (.sample rd) s = .next ({ s.wrote rd (poolRead (r % s.poolLen) s) with
        empty := false, draws := s.draws.tail, drawCount := s.drawCount + 1 }.answered 0))

/-- A pushed word is what POOLRD of its index then reads, whatever registers carry it (20 R37, 43 R83, R84). -/
def Obligations.PushedWordIsReadBack : Prop :=
  ∀ (s t : State) (ra rd ri : Reg), s.poolLen ≠ s.cfg.poolCap → exec (.poolpush ra) s = .next t →
    t.x[ri] = s.poolLen → exec (.poolrd rd ri) t = .next ((t.wrote rd s.x[ra]).answered 0)

/-! ## The cipher -/

/-- What each primitive of the cipher computes, bit by bit: `perm` and `rol5` (44 R91), `subkeys` (R93), `sbox` (R94),
`roundF` (R95), `encryptBlock` (R96), `decryptBlock` (R97), over any TABLES. The positions, the order of the key schedule
and the row and column rule are log 2's. In `subkeys`, position `j + 1` of a subkey is a position of the key, found back
through P8, the rotations (LS1 for K1, LS1 and then LS2 for K2) and P10. -/
def Obligations.CipherPrimitivesFollowTheirRules : Prop :=
  (∀ (k n : Nat) (t : Vector Nat k) (v : BitVec n) (j : Nat) (hj : j < k),
    position (perm t v) (j + 1) = position v t[j]) ∧
  (∀ (v : BitVec 5) (s i : Nat), s < 5 → i < 5 → position (rol5 v s) (i + 1) = position v ((i + s) % 5 + 1)) ∧
  (∀ (t : Tables) (key : BitVec 10) (j q : Nat) (hj : j < 8) (hq : q < 10), t.wellFormed = true →
    (rotatedFrom t.ls1 t.p8[j] = q + 1 → position (subkeys t key).1 (j + 1) = position key t.p10[q]) ∧
    (rotatedFrom (t.ls1 + t.ls2) t.p8[j] = q + 1 → position (subkeys t key).2 (j + 1) = position key t.p10[q])) ∧
  (∀ (s : Vector (Vector (BitVec 2) 4) 4) (n : BitVec 4) (row col : Nat) (hr : row < 4) (hc : col < 4),
    row = 2 * (position n 1).toNat + (position n 4).toNat → col = 2 * (position n 2).toNat + (position n 3).toNat →
    sbox s n = s[row][col]) ∧
  (∀ (t : Tables) (r : BitVec 4) (k u : BitVec 8),
    (∀ (j : Nat) (hj : j < 8), position u (j + 1) = (position r t.ep[j] ^^ position k (j + 1))) →
    ∀ (j : Nat) (hj : j < 4), position (roundF t r k) (j + 1) =
      position (sbox t.s0 (u.extractLsb' 4 4) ++ sbox t.s1 (u.extractLsb' 0 4)) t.p4[j]) ∧
  (∀ (t : Tables) (b k1 k2 p : BitVec 8) (l1 l2 : BitVec 4),
    (∀ (j : Nat) (hj : j < 8), position p (j + 1) = position b t.ip[j]) →
    l1 = p.extractLsb' 4 4 ^^^ roundF t (p.extractLsb' 0 4) k1 → l2 = p.extractLsb' 0 4 ^^^ roundF t l1 k2 →
    ∀ (j : Nat) (hj : j < 8), position (encryptBlock t b k1 k2) (j + 1) = position (l2 ++ l1) t.fp[j]) ∧
  ∀ (t : Tables) (b k1 k2 : BitVec 8), decryptBlock t b k1 k2 = encryptBlock t b k2 k1

/-- 44 R99. -/
def Obligations.KeysetLoadsAKeyOrFaults : Prop :=
  (∀ ra : Reg, decode (commandWord 0x30 0 ra 0 0 0) = .command (.keyset ra)) ∧
  ∀ (s : State) (ra : Reg),
    (s.x[ra] < 1024 → ∃ k : BitVec 10, k.toNat = s.x[ra] ∧ exec (.keyset ra) s = .next ({ s with
      key := k, k1 := (subkeys s.cfg.tables k).1, k2 := (subkeys s.cfg.tables k).2, keyv := true }.answered 0)) ∧
    (1024 ≤ s.x[ra] → exec (.keyset ra) s = .next (s.faulted 0x14))

/-- 44 R100: the key is the secret modulo 1024; every secret is legal. -/
def Obligations.KeydrvDerivesTheKey : Prop :=
  (∀ ra : Reg, decode (commandWord 0x31 0 ra 0 0 0) = .command (.keydrv ra)) ∧
  ∀ (s : State) (ra : Reg), ∃ k : BitVec 10, k.toNat = s.x[ra] % 1024 ∧ exec (.keydrv ra) s = .next ({ s with
    key := k, k1 := (subkeys s.cfg.tables k).1, k2 := (subkeys s.cfg.tables k).2, keyv := true }.answered 0)

/-- 44 R101. -/
def Obligations.FencEncryptsOneBlock : Prop :=
  (∀ rd ra : Reg, decode (commandWord 0x32 rd ra 0 0 0) = .command (.fenc rd ra)) ∧
  ∀ (s : State) (rd ra : Reg),
    (s.keyv = true → ∀ b : BitVec 8, s.x[ra] = b.toNat → exec (.fenc rd ra) s =
      .next ((s.wrote rd (encryptBlock s.cfg.tables b s.k1 s.k2).toNat).answered 0)) ∧
    (s.keyv = false → exec (.fenc rd ra) s = .next (s.faulted 0x62)) ∧
    (s.keyv = true → 256 ≤ s.x[ra] → exec (.fenc rd ra) s = .next (s.faulted 0x17))

/-- 44 R102 with 44 R97: as FENC with the subkeys exchanged. -/
def Obligations.FdecDecryptsOneBlock : Prop :=
  (∀ rd ra : Reg, decode (commandWord 0x33 rd ra 0 0 0) = .command (.fdec rd ra)) ∧
  ∀ (s : State) (rd ra : Reg),
    (s.keyv = true → ∀ b : BitVec 8, s.x[ra] = b.toNat → exec (.fdec rd ra) s =
      .next ((s.wrote rd (encryptBlock s.cfg.tables b s.k2 s.k1).toNat).answered 0)) ∧
    (s.keyv = false → exec (.fdec rd ra) s = .next (s.faulted 0x62)) ∧
    (s.keyv = true → 256 ≤ s.x[ra] → exec (.fdec rd ra) s = .next (s.faulted 0x17))

/-- 44 R98: decryption undoes encryption, and encryption decryption, for every well-formed TABLES, every pair of
subkeys (hence every key) and every block. -/
def Obligations.CipherRoundTrip : Prop :=
  ∀ (t : Tables) (b k1 k2 : BitVec 8), t.wellFormed = true →
    decryptBlock t (encryptBlock t b k1 k2) k1 k2 = b ∧ encryptBlock t (decryptBlock t b k1 k2) k1 k2 = b

/-! ## The mode controller -/

/-- 45 R106. -/
def Obligations.SetmodeWritesTheMode : Prop :=
  decode 0x40000000#32 = .command (.setmode .ecb) ∧ decode 0x40000001#32 = .command (.setmode .cbc) ∧
  (∀ k : Nat, 2 ≤ k → k < 256 → ∃ why, decode (commandWord 0x40 0 0 0 0 (BitVec.ofNat 8 k)) = .reserved why) ∧
  ∀ (s : State) (m : CipherMode), exec (.setmode m) s = .next ({ s with mode := m }.answered 0)

/-- 45 R107. -/
def Obligations.IvsetLoadsAnIvOrFaults : Prop :=
  (∀ ra : Reg, decode (commandWord 0x41 0 ra 0 0 0) = .command (.ivset ra)) ∧
  ∀ (s : State) (ra : Reg),
    (∀ v : BitVec 8, s.x[ra] = v.toNat →
      exec (.ivset ra) s = .next ({ s with iv := v, chain := v, ivv := true }.answered 0)) ∧
    (256 ≤ s.x[ra] → exec (.ivset ra) s = .next (s.faulted 0x17))

/-- 45 R108: IV and CHAIN take the same 8-bit draw, the host's next injected one where there is one. -/
def Obligations.IvgenLoadsADraw : Prop :=
  decode 0x42000000#32 = .command .ivgen ∧
  ∀ s : State, ∃ r : BitVec 8, (∀ d ds, s.draws = d :: ds → r.toNat = d % 256) ∧
    exec .ivgen s = .next ({ s with
      iv := r, chain := r, ivv := true, draws := s.draws.tail, drawCount := s.drawCount + 1 }.answered 0)

/-- 45 R109. -/
def Obligations.MstartRestartsTheChain : Prop :=
  decode 0x43000000#32 = .command .mstart ∧
  ∀ s : State,
    (s.mode = .ecb → exec .mstart s = .next (s.answered 0)) ∧
    (s.mode = .cbc → s.ivv = true → exec .mstart s = .next ({ s with chain := s.iv }.answered 0)) ∧
    (s.mode = .cbc → s.ivv = false → exec .mstart s = .next (s.faulted 0x63))

/-- 45 R110, the checks in their order. -/
def Obligations.CencEncryptsInTheMode : Prop :=
  (∀ rd ra : Reg, decode (commandWord 0x44 rd ra 0 0 0) = .command (.cenc rd ra)) ∧
  ∀ (s : State) (rd ra : Reg),
    (s.keyv = true → s.mode = .ecb → ∀ b : BitVec 8, s.x[ra] = b.toNat → exec (.cenc rd ra) s =
      .next ((s.wrote rd (encryptBlock s.cfg.tables b s.k1 s.k2).toNat).answered 0)) ∧
    (s.keyv = true → s.mode = .cbc → s.ivv = true → ∀ b : BitVec 8, s.x[ra] = b.toNat → exec (.cenc rd ra) s =
      .next ({ s.wrote rd (encryptBlock s.cfg.tables (b ^^^ s.chain) s.k1 s.k2).toNat with
        chain := encryptBlock s.cfg.tables (b ^^^ s.chain) s.k1 s.k2 }.answered 0)) ∧
    (s.keyv = false → exec (.cenc rd ra) s = .next (s.faulted 0x62)) ∧
    (s.keyv = true → s.mode = .cbc → s.ivv = false → exec (.cenc rd ra) s = .next (s.faulted 0x63)) ∧
    (s.keyv = true → (s.mode = .ecb ∨ s.ivv = true) → 256 ≤ s.x[ra] →
      exec (.cenc rd ra) s = .next (s.faulted 0x17))

/-- 45 R111, the checks in their order; the old CHAIN is used before the ciphertext block replaces it. -/
def Obligations.CdecDecryptsInTheMode : Prop :=
  (∀ rd ra : Reg, decode (commandWord 0x45 rd ra 0 0 0) = .command (.cdec rd ra)) ∧
  ∀ (s : State) (rd ra : Reg),
    (s.keyv = true → s.mode = .ecb → ∀ c : BitVec 8, s.x[ra] = c.toNat → exec (.cdec rd ra) s =
      .next ((s.wrote rd (decryptBlock s.cfg.tables c s.k1 s.k2).toNat).answered 0)) ∧
    (s.keyv = true → s.mode = .cbc → s.ivv = true → ∀ c : BitVec 8, s.x[ra] = c.toNat → exec (.cdec rd ra) s =
      .next ({ s.wrote rd (decryptBlock s.cfg.tables c s.k1 s.k2 ^^^ s.chain).toNat with chain := c }.answered 0)) ∧
    (s.keyv = false → exec (.cdec rd ra) s = .next (s.faulted 0x62)) ∧
    (s.keyv = true → s.mode = .cbc → s.ivv = false → exec (.cdec rd ra) s = .next (s.faulted 0x63)) ∧
    (s.keyv = true → (s.mode = .ecb ∨ s.ivv = true) → 256 ≤ s.x[ra] →
      exec (.cdec rd ra) s = .next (s.faulted 0x17))

/-- 45 R112: in ECB mode one key makes equal ciphertext of equal blocks, whatever else differs between the states. -/
def Obligations.EcbIsDeterministic : Prop :=
  ∀ (s t s' t' : State) (rd ra rd' ra' : Reg), s.mode = .ecb → t.mode = .ecb → s.keyv = true → t.keyv = true →
    s.cfg.tables = t.cfg.tables → s.k1 = t.k1 → s.k2 = t.k2 → s.x[ra] < 256 → s.x[ra] = t.x[ra'] →
    exec (.cenc rd ra) s = .next s' → exec (.cenc rd' ra') t = .next t' → s'.x[rd] = t'.x[rd']

/-- 45 R113: a message of any length, encrypted on one core by MSTART and CENC and then presented to a second core with
the same TABLES, subkeys and IV by MSTART and CDEC, comes back as it was. -/
def Obligations.CbcMessageRoundTrip : Prop :=
  ∀ (s t : State) (rd ra rd' ra' : Reg) (plain : List Word), s.Inv → t.Inv → s.fault = false → t.fault = false →
    s.mode = .cbc → t.mode = .cbc → s.keyv = true → t.keyv = true → s.ivv = true → t.ivv = true →
    s.cfg.tables = t.cfg.tables → s.k1 = t.k1 → s.k2 = t.k2 → s.iv = t.iv → (∀ b ∈ plain, b < 256) →
    ∃ cipher s' t', message (.cenc rd ra) rd ra plain s = some (cipher, s') ∧
      message (.cdec rd' ra') rd' ra' cipher t = some (plain, t') ∧ s'.fault = false ∧ t'.fault = false

/-! ## Frames and whole-machine rules -/

/-- 10 R13, R19, writes: a command changes no general register but those the table gives it, and only their written
bits. -/
def Obligations.OnlyDestinationRegistersChange : Prop :=
  ∀ (i : Instr) (s t : State), exec i s = .next t →
    ∀ r : Reg, r ∉ regsWritten i → t.x[r] = s.x[r] ∧ t.written[r] = s.written[r]

/-- 10 R18, the "set by" and "cleared by" columns over commands: each flag is changed by its own commands only, and in
their direction only. -/
def Obligations.FlagsChangeOnlyByTheirWriters : Prop :=
  ∀ (i : Instr) (s t : State), exec i s = .next t →
    (t.fault ≠ s.fault → (t.fault = true ∧ t.answer = some ⟨.err, 0⟩) ∨ (t.fault = false ∧ i = .errack)) ∧
    (t.keyv ≠ s.keyv → t.keyv = true ∧ ∃ ra, i = .keyset ra ∨ i = .keydrv ra) ∧
    (t.ivv ≠ s.ivv → t.ivv = true ∧ ((∃ ra, i = .ivset ra) ∨ i = .ivgen)) ∧
    (t.mode ≠ s.mode → i = .setmode t.mode) ∧
    (t.empty ≠ s.empty → ∃ rd, i = .sample rd ∧ (t.empty = true ↔ s.poolLen = 0))

/-- 10 R22, R23, R25, R26, the "written by" column: each control register is changed by its writers only; IV never by
CENC, CDEC or MSTART (45 R115). -/
def Obligations.ControlRegistersChangeOnlyByTheirWriters : Prop :=
  ∀ (i : Instr) (s t : State), exec i s = .next t →
    (t.ecause ≠ s.ecause ∨ t.ecmd ≠ s.ecmd → i = .errack ∨ t.answer = some ⟨.err, 0⟩) ∧
    (t.key ≠ s.key ∨ t.k1 ≠ s.k1 ∨ t.k2 ≠ s.k2 → ∃ ra, i = .keyset ra ∨ i = .keydrv ra) ∧
    (t.iv ≠ s.iv → (∃ ra, i = .ivset ra) ∨ i = .ivgen) ∧
    (t.chain ≠ s.chain →
      (∃ ra, i = .ivset ra) ∨ i = .ivgen ∨ i = .mstart ∨ ∃ rd ra, i = .cenc rd ra ∨ i = .cdec rd ra) ∧
    (t.poolLen ≠ s.poolLen → i = .poolclr ∨ ∃ ra, i = .poolpush ra)

/-- 20 R33, R36: no command but POOLPUSH changes a pool word, and POOLPUSH changes the word at POOLLEN alone; the words
are those `poolRead` reads at every index. -/
def Obligations.PoolWordsChangeOnlyByPush : Prop :=
  ∀ (i : Instr) (s t : State), exec i s = .next t →
    ((∀ ra, i ≠ .poolpush ra) → ∀ j, poolRead j t = poolRead j s) ∧
    (∀ ra, i = .poolpush ra → ∀ j, j ≠ s.poolLen → poolRead j t = poolRead j s)

/-- 10 R27: "The core takes a random value at exactly two commands": SAMPLE takes one draw when POOLLEN > 0, IVGEN takes
one, and no other command takes any. -/
def Obligations.DrawsAreTakenByTwoCommandsOnly : Prop :=
  ∀ (i : Instr) (s t : State), exec i s = .next t →
    ((i = .ivgen ∨ ∃ rd, i = .sample rd ∧ 0 < s.poolLen) → t.drawCount = s.drawCount + 1 ∧ t.draws = s.draws.tail) ∧
    (¬(i = .ivgen ∨ ∃ rd, i = .sample rd ∧ 0 < s.poolLen) → t.drawCount = s.drawCount ∧ t.draws = s.draws)

/-- 10 R28, 00 R6: no step changes TABLES, W, POOLCAP or E_DEFAULT. -/
def Obligations.ConfigurationNeverChanges : Prop := ∀ s t : State, step s = .next t → t.cfg = s.cfg

/-- 10 R13, reads, and R15: a command whose source registers have all been written cannot be influenced by the values of
the registers that have not: two states that differ only there go to states that differ only there, with the same
answer. So no claim about such commands rests on the reset values of log 3. -/
def Obligations.UnwrittenRegistersCannotMatter : Prop :=
  ∀ (i : Instr) (s t : State), AgreeOnWritten s t → ReadsWritten i s →
    ∃ s' t', exec i s = .next s' ∧ exec i t = .next t' ∧ AgreeOnWritten s' t' ∧ s'.answer = t'.answer

/-- 70 R145, 60 R124: while a fault stands and the host presents neither ERRACK nor reset, any number of transactions
changes nothing but the port. -/
def Obligations.NothingRunsWhileTheFaultStands : Prop :=
  ∀ (ms : List HostMove) (s : State), s.fault = true →
    (∀ m ∈ ms, ∃ w d, m = .transaction w d ∧ w ≠ 0x04000000) →
    ∃ cmd wdata answer inbox, (runMoves ms s).2 =
      { s with cmd := cmd, wdata := wdata, answer := answer, inbox := inbox }

/-- 70 R152 with 70 R145: in a clean run without reset and ERRACK that starts without a fault, every transaction
answers OK. -/
def Obligations.ACleanRunWithoutErrackAnswersOk : Prop :=
  ∀ (ms : List HostMove) (s : State), s.fault = false →
    (∀ m ∈ ms, ∃ w d, m = .transaction w d ∧ w ≠ 0x04000000) → CleanRun ms s →
    ∀ a ∈ (runMoves ms s).1, ∃ v, a = some ⟨.ok, v⟩
end

