-- ==== Sys2Proof/Laws/Arith.lean ====
section
/-!
SUPPORT. The product in 2W bits loses nothing: "t < 2^(2W), because (2^W - 1)^2 < 2^(2W)" (spec 41 R65).
-/

namespace Sys2Proof.Machine

/-- The wide product of two W-bit values is their product in the integers. -/
theorem wideProduct_toNat {w a b : Nat} (ha : Fits w a) (hb : Fits w b) : (wideProduct w a b).toNat = a * b := by
  have hw : (2 : Nat) ^ (2 * w) = 2 ^ w * 2 ^ w := by rw [two_mul, pow_add]
  have h : a * b < 2 ^ (2 * w) := hw ▸ Nat.mul_lt_mul'' ha hb
  have ha' : a < 2 ^ (2 * w) := lt_of_lt_of_le ha (Nat.pow_le_pow_right (by norm_num) (by omega))
  have hb' : b < 2 ^ (2 * w) := lt_of_lt_of_le hb (Nat.pow_le_pow_right (by norm_num) (by omega))
  rw [wideProduct, BitVec.toNat_mul, BitVec.toNat_ofNat, BitVec.toNat_ofNat, Nat.mod_eq_of_lt ha', Nat.mod_eq_of_lt hb',
    Nat.mod_eq_of_lt h]

end Sys2Proof.Machine
end

