-- ==== Sys2Proof/Laws/Decode.lean ====
section
/-!
SUPPORT. A command word and its fields (spec 30 R45, R54): every bit of it, every field of it, and what a mask leaves of
it (30 R47).
-/

namespace Sys2Proof

theorem reg_testBit (r : Reg) (i : Nat) (h : 4 ≤ i) : r.val.testBit i = false :=
  Nat.testBit_lt_two_pow (lt_of_lt_of_le r.isLt (Nat.pow_le_pow_right (n := 2) (by norm_num) h))

section
variable (op : BitVec 8) (rd ra rb rm : Reg) (imm8 : BitVec 8)

/-- Which field each bit belongs to (30 R45). -/
theorem getLsbD_commandWord (i : Nat) (hi : i < 32) :
    (commandWord op rd ra rb rm imm8).getLsbD i =
      if i < 8 then imm8.getLsbD i else if i < 12 then rm.val.testBit (i - 8)
      else if i < 16 then rb.val.testBit (i - 12) else if i < 20 then ra.val.testBit (i - 16)
      else if i < 24 then rd.val.testBit (i - 20) else op.getLsbD (i - 24) := by
  simp only [commandWord, BitVec.getLsbD_or, BitVec.getLsbD_shiftLeft, BitVec.getLsbD_setWidth, BitVec.getLsbD_ofNat]
  interval_cases i <;> simp [reg_testBit, -BitVec.getLsbD_eq_getElem]

theorem regField_eq {k : Nat} {w : CmdWord} {r : Reg} (h : ∀ i, i < 4 → w.getLsbD (k + i) = r.val.testBit i) :
    (w.extractLsb' k 4).toFin = r := by
  have e : w.extractLsb' k 4 = BitVec.ofFin r := BitVec.eq_of_getLsbD_eq fun i hi => by
    rw [BitVec.getLsbD_extractLsb', h i hi]
    simp [hi]
  rw [e]

@[simp] theorem opField_commandWord : opField (commandWord op rd ra rb rm imm8) = op :=
  BitVec.eq_of_getLsbD_eq fun i hi => by
    rw [opField, BitVec.getLsbD_extractLsb', getLsbD_commandWord _ _ _ _ _ _ _ (by omega)]
    interval_cases i <;> simp

@[simp] theorem rdField_commandWord : rdField (commandWord op rd ra rb rm imm8) = rd :=
  regField_eq fun i hi => by
    rw [getLsbD_commandWord _ _ _ _ _ _ _ (by omega)]
    interval_cases i <;> simp

@[simp] theorem raField_commandWord : raField (commandWord op rd ra rb rm imm8) = ra :=
  regField_eq fun i hi => by
    rw [getLsbD_commandWord _ _ _ _ _ _ _ (by omega)]
    interval_cases i <;> simp

@[simp] theorem rbField_commandWord : rbField (commandWord op rd ra rb rm imm8) = rb :=
  regField_eq fun i hi => by
    rw [getLsbD_commandWord _ _ _ _ _ _ _ (by omega)]
    interval_cases i <;> simp

@[simp] theorem rmField_commandWord : rmField (commandWord op rd ra rb rm imm8) = rm :=
  regField_eq fun i hi => by
    rw [getLsbD_commandWord _ _ _ _ _ _ _ (by omega)]
    interval_cases i <;> simp

@[simp] theorem imm8Field_commandWord : imm8Field (commandWord op rd ra rb rm imm8) = imm8 :=
  BitVec.eq_of_getLsbD_eq fun i hi => by
    rw [imm8Field, BitVec.getLsbD_extractLsb', getLsbD_commandWord _ _ _ _ _ _ _ (by omega)]
    interval_cases i <;> simp

end

theorem regField_testBit (w : CmdWord) (k i : Nat) (hi : i < 4) :
    ((w.extractLsb' k 4).toFin : Reg).val.testBit i = w.getLsbD (k + i) := by
  have h : (w.extractLsb' k 4).getLsbD i = w.getLsbD (k + i) := by simp [hi]
  exact h

/-- A word is the command word of its fields. -/
theorem commandWord_fields (w : CmdWord) :
    commandWord (opField w) (rdField w) (raField w) (rbField w) (rmField w) (imm8Field w) = w :=
  BitVec.eq_of_getLsbD_eq fun i hi => by
    rw [getLsbD_commandWord _ _ _ _ _ _ _ hi]
    unfold opField rdField raField rbField rmField imm8Field
    split_ifs
    · simp only [BitVec.getLsbD_extractLsb']; simp_all
    · rw [regField_testBit _ _ _ (by omega)]; congr 1; omega
    · rw [regField_testBit _ _ _ (by omega)]; congr 1; omega
    · rw [regField_testBit _ _ _ (by omega)]; congr 1; omega
    · rw [regField_testBit _ _ _ (by omega)]; congr 1; omega
    · have e : 24 + (i - 24) = i := by omega
      have h8 : i - 24 < 8 := by omega
      simp only [BitVec.getLsbD_extractLsb', e, h8]; simp

theorem reg_and_testBit (a b : Reg) (i : Nat) : (a &&& b).val.testBit i = (a.val.testBit i && b.val.testBit i) := by
  have h : (a &&& b).val = (a.val &&& b.val) % 2 ^ 4 := rfl
  rw [h, Nat.testBit_mod_two_pow, Nat.testBit_and]
  by_cases hi : i < 4
  · simp [hi]
  · simp [hi, reg_testBit a i (by omega)]

/-- A mask meets a word field by field. -/
theorem commandWord_and (op op' : BitVec 8) (rd rd' ra ra' rb rb' rm rm' : Reg) (imm8 imm8' : BitVec 8) :
    commandWord op rd ra rb rm imm8 &&& commandWord op' rd' ra' rb' rm' imm8' =
      commandWord (op &&& op') (rd &&& rd') (ra &&& ra') (rb &&& rb') (rm &&& rm') (imm8 &&& imm8') :=
  BitVec.eq_of_getLsbD_eq fun i hi => by
    rw [BitVec.getLsbD_and]
    simp only [getLsbD_commandWord _ _ _ _ _ _ _ hi, reg_and_testBit, BitVec.getLsbD_and]
    split_ifs <;> rfl

@[simp] theorem reg_and_none (r : Reg) : r &&& 0 = 0 := by revert r; decide

@[simp] theorem reg_and_all (r : Reg) : r &&& 15 = r := by revert r; decide

@[simp] theorem none_and_reg (r : Reg) : 0 &&& r = 0 := by revert r; decide

theorem Opcode.mem_all (o : Opcode) : o ∈ Opcode.all := by cases o <;> decide

/-- The "op" column names its row, so no two rows have one opcode (30 R50). -/
@[simp] theorem Opcode.ofOp_pattern (o : Opcode) : Opcode.ofOp (opField o.pattern) = some o := by cases o <;> decide

@[simp] theorem Csr.ofIndex_index (c : Csr) : Csr.ofIndex c.index = some c := by cases c <;> decide

@[simp] theorem CipherMode.ofBit_bit (m : CipherMode) : CipherMode.ofBit m.bit = m := by cases m <;> rfl

@[simp] theorem flagByte_bit (b : Bool) : (flagByte b).getLsbD 0 = b := by cases b <;> decide

end Sys2Proof
end

