-- ==== Sys2Proof/Laws/Memory.lean ====
section
/-!
SUPPORT. The laws of the pool's cells: every operation keeps the canonical form, and a read after a write gives the word
written there and what it gave before elsewhere.
-/

namespace Sys2Proof.Machine

theorem Memory.wf_nil : Memory.wf [] := ⟨List.Pairwise.nil, by simp⟩

@[simp] theorem Memory.read_nil (i : Nat) : Memory.read [] i = Memory.blank := rfl

theorem Memory.read_cons (c : Nat × Word) (m : Memory) (i : Nat) :
    Memory.read (c :: m) i = if c.1 = i then c.2 else Memory.read m i := rfl

/-- What a read answers is the blank word or the word of a cell. -/
theorem Memory.read_cases (m : Memory) (i : Nat) : m.read i = Memory.blank ∨ (i, m.read i) ∈ m := by
  induction m with
  | nil => exact .inl rfl
  | cons c m ih =>
    rw [Memory.read_cons]
    split
    · next h => exact .inr (by simp [← h])
    · exact ih.imp_right (List.mem_cons_of_mem _)

theorem Memory.mem_insert (m : Memory) (i : Nat) (v : Word) (c : Nat × Word) :
    c ∈ m.insert i v ↔ c = (i, v) ∨ c ∈ m := by
  induction m with
  | nil => simp [Memory.insert]
  | cons d m ih =>
    simp only [Memory.insert]
    split
    · simp
    · simp [ih, or_left_comm]

theorem Memory.mem_erase (m : Memory) (i : Nat) (c : Nat × Word) : c ∈ m.erase i ↔ c ∈ m ∧ c.1 ≠ i := by
  simp [Memory.erase]

/-- A cell of a written memory is the cell written, or an old one of another index. -/
theorem Memory.mem_write {m : Memory} {i : Nat} {v : Word} {c : Nat × Word} (h : c ∈ m.write i v) :
    c = (i, v) ∨ (c ∈ m ∧ c.1 ≠ i) := by
  unfold Memory.write at h
  split at h
  · exact .inr ((Memory.mem_erase ..).1 h)
  · exact ((Memory.mem_insert ..).1 h).imp_right (Memory.mem_erase ..).1

theorem Memory.erase_pairwise {m : Memory} (i : Nat) (h : m.Pairwise (fun c d => c.1 < d.1)) :
    (m.erase i).Pairwise (fun c d => c.1 < d.1) := h.filter _

theorem Memory.insert_pairwise {m : Memory} (i : Nat) (v : Word) (h : m.Pairwise (fun c d => c.1 < d.1))
    (hi : ∀ c ∈ m, c.1 ≠ i) : (m.insert i v).Pairwise (fun c d => c.1 < d.1) := by
  induction m with
  | nil => simp [Memory.insert]
  | cons d m ih =>
    have hd := List.pairwise_cons.1 h
    have hdi := hi d (by simp)
    simp only [Memory.insert]
    split
    · next hlt =>
      refine List.pairwise_cons.2 ⟨fun c hc => ?_, h⟩
      rcases List.mem_cons.1 hc with rfl | hc
      · exact hlt
      · exact lt_trans hlt (hd.1 c hc)
    · next hge =>
      refine List.pairwise_cons.2 ⟨fun c hc => ?_, ih hd.2 fun c hc => hi c (by simp [hc])⟩
      rcases (Memory.mem_insert ..).1 hc with rfl | hc
      · exact show d.1 < i by omega
      · exact hd.1 c hc

/-- Writing keeps the canonical form. -/
theorem Memory.wf_write {m : Memory} (i : Nat) (v : Word) (h : Memory.wf m) : Memory.wf (m.write i v) := by
  have hp := Memory.erase_pairwise i h.1
  refine ⟨?_, fun c hc => ?_⟩
  · unfold Memory.write
    split
    · exact hp
    · exact Memory.insert_pairwise i v hp fun c hc => ((Memory.mem_erase ..).1 hc).2
  · by_cases hv : v = Memory.blank
    · rw [Memory.write, if_pos hv] at hc
      exact h.2 c ((Memory.mem_erase ..).1 hc).1
    · rcases Memory.mem_write hc with rfl | hc
      · exact hv
      · exact h.2 c hc.1

theorem Memory.read_erase (m : Memory) (i j : Nat) :
    (m.erase i).read j = if j = i then Memory.blank else m.read j := by
  induction m with
  | nil => simp [Memory.erase]
  | cons c m ih =>
    unfold Memory.erase at ih ⊢
    by_cases hc : c.1 = i <;> by_cases hj : j = i <;>
      simp_all [Memory.read_cons]
    exact fun h => absurd h.symm hj

theorem Memory.read_insert {m : Memory} {i : Nat} (v : Word) (j : Nat) (hi : ∀ c ∈ m, c.1 ≠ i) :
    (m.insert i v).read j = if j = i then v else m.read j := by
  induction m with
  | nil => simp [Memory.insert, Memory.read_cons, eq_comm]
  | cons c m ih =>
    have hci := hi c (by simp)
    simp only [Memory.insert]
    split
    · simp [Memory.read_cons, eq_comm]
    · rw [Memory.read_cons, Memory.read_cons, ih fun c hc => hi c (by simp [hc])]
      split <;> split <;> simp_all

/-- A read after a write. -/
theorem Memory.read_write (m : Memory) (i j : Nat) (v : Word) :
    (m.write i v).read j = if j = i then v else m.read j := by
  unfold Memory.write
  split
  · next h => simp [Memory.read_erase, h]
  · rw [Memory.read_insert v j fun c hc => ((Memory.mem_erase ..).1 hc).2, Memory.read_erase]
    split <;> simp_all

end Sys2Proof.Machine
end

