-- ==== Sys2Proof/Laws/State.lean ====
section
/-!
SUPPORT. What each update does to each field of the state: one lemma per field per update, so that no proof unfolds a
record update.
-/

namespace Sys2Proof.Machine

variable (s : State)


/-! ### writeReg -/

@[simp] theorem writeReg_x (r : Reg) (v : Word) : (writeReg r v s).x = s.x.set r v := rfl
@[simp] theorem writeReg_fault (r : Reg) (v : Word) : (writeReg r v s).fault = s.fault := rfl
@[simp] theorem writeReg_keyv (r : Reg) (v : Word) : (writeReg r v s).keyv = s.keyv := rfl
@[simp] theorem writeReg_ivv (r : Reg) (v : Word) : (writeReg r v s).ivv = s.ivv := rfl
@[simp] theorem writeReg_mode (r : Reg) (v : Word) : (writeReg r v s).mode = s.mode := rfl
@[simp] theorem writeReg_empty (r : Reg) (v : Word) : (writeReg r v s).empty = s.empty := rfl
@[simp] theorem writeReg_ecause (r : Reg) (v : Word) : (writeReg r v s).ecause = s.ecause := rfl
@[simp] theorem writeReg_ecmd (r : Reg) (v : Word) : (writeReg r v s).ecmd = s.ecmd := rfl
@[simp] theorem writeReg_key (r : Reg) (v : Word) : (writeReg r v s).key = s.key := rfl
@[simp] theorem writeReg_k1 (r : Reg) (v : Word) : (writeReg r v s).k1 = s.k1 := rfl
@[simp] theorem writeReg_k2 (r : Reg) (v : Word) : (writeReg r v s).k2 = s.k2 := rfl
@[simp] theorem writeReg_iv (r : Reg) (v : Word) : (writeReg r v s).iv = s.iv := rfl
@[simp] theorem writeReg_chain (r : Reg) (v : Word) : (writeReg r v s).chain = s.chain := rfl
@[simp] theorem writeReg_poolLen (r : Reg) (v : Word) : (writeReg r v s).poolLen = s.poolLen := rfl
@[simp] theorem writeReg_pool (r : Reg) (v : Word) : (writeReg r v s).pool = s.pool := rfl
@[simp] theorem writeReg_cfg (r : Reg) (v : Word) : (writeReg r v s).cfg = s.cfg := rfl
@[simp] theorem writeReg_cmd (r : Reg) (v : Word) : (writeReg r v s).cmd = s.cmd := rfl
@[simp] theorem writeReg_wdata (r : Reg) (v : Word) : (writeReg r v s).wdata = s.wdata := rfl
@[simp] theorem writeReg_answer (r : Reg) (v : Word) : (writeReg r v s).answer = s.answer := rfl
@[simp] theorem writeReg_inbox (r : Reg) (v : Word) : (writeReg r v s).inbox = s.inbox := rfl
@[simp] theorem writeReg_draws (r : Reg) (v : Word) : (writeReg r v s).draws = s.draws := rfl
@[simp] theorem writeReg_drawCount (r : Reg) (v : Word) : (writeReg r v s).drawCount = s.drawCount := rfl
@[simp] theorem writeReg_written (r : Reg) (v : Word) : (writeReg r v s).written = s.written.set r true := rfl

/-! ### poolWrite -/

@[simp] theorem poolWrite_x (i : Nat) (v : Word) : (poolWrite i v s).x = s.x := rfl
@[simp] theorem poolWrite_fault (i : Nat) (v : Word) : (poolWrite i v s).fault = s.fault := rfl
@[simp] theorem poolWrite_keyv (i : Nat) (v : Word) : (poolWrite i v s).keyv = s.keyv := rfl
@[simp] theorem poolWrite_ivv (i : Nat) (v : Word) : (poolWrite i v s).ivv = s.ivv := rfl
@[simp] theorem poolWrite_mode (i : Nat) (v : Word) : (poolWrite i v s).mode = s.mode := rfl
@[simp] theorem poolWrite_empty (i : Nat) (v : Word) : (poolWrite i v s).empty = s.empty := rfl
@[simp] theorem poolWrite_ecause (i : Nat) (v : Word) : (poolWrite i v s).ecause = s.ecause := rfl
@[simp] theorem poolWrite_ecmd (i : Nat) (v : Word) : (poolWrite i v s).ecmd = s.ecmd := rfl
@[simp] theorem poolWrite_key (i : Nat) (v : Word) : (poolWrite i v s).key = s.key := rfl
@[simp] theorem poolWrite_k1 (i : Nat) (v : Word) : (poolWrite i v s).k1 = s.k1 := rfl
@[simp] theorem poolWrite_k2 (i : Nat) (v : Word) : (poolWrite i v s).k2 = s.k2 := rfl
@[simp] theorem poolWrite_iv (i : Nat) (v : Word) : (poolWrite i v s).iv = s.iv := rfl
@[simp] theorem poolWrite_chain (i : Nat) (v : Word) : (poolWrite i v s).chain = s.chain := rfl
@[simp] theorem poolWrite_poolLen (i : Nat) (v : Word) : (poolWrite i v s).poolLen = s.poolLen := rfl
@[simp] theorem poolWrite_pool (i : Nat) (v : Word) : (poolWrite i v s).pool = s.pool.write i v := rfl
@[simp] theorem poolWrite_cfg (i : Nat) (v : Word) : (poolWrite i v s).cfg = s.cfg := rfl
@[simp] theorem poolWrite_cmd (i : Nat) (v : Word) : (poolWrite i v s).cmd = s.cmd := rfl
@[simp] theorem poolWrite_wdata (i : Nat) (v : Word) : (poolWrite i v s).wdata = s.wdata := rfl
@[simp] theorem poolWrite_answer (i : Nat) (v : Word) : (poolWrite i v s).answer = s.answer := rfl
@[simp] theorem poolWrite_inbox (i : Nat) (v : Word) : (poolWrite i v s).inbox = s.inbox := rfl
@[simp] theorem poolWrite_draws (i : Nat) (v : Word) : (poolWrite i v s).draws = s.draws := rfl
@[simp] theorem poolWrite_drawCount (i : Nat) (v : Word) : (poolWrite i v s).drawCount = s.drawCount := rfl
@[simp] theorem poolWrite_written (i : Nat) (v : Word) : (poolWrite i v s).written = s.written := rfl

/-! ### setEmpty -/

@[simp] theorem setEmpty_x (b : Bool) : (setEmpty b s).x = s.x := rfl
@[simp] theorem setEmpty_fault (b : Bool) : (setEmpty b s).fault = s.fault := rfl
@[simp] theorem setEmpty_keyv (b : Bool) : (setEmpty b s).keyv = s.keyv := rfl
@[simp] theorem setEmpty_ivv (b : Bool) : (setEmpty b s).ivv = s.ivv := rfl
@[simp] theorem setEmpty_mode (b : Bool) : (setEmpty b s).mode = s.mode := rfl
@[simp] theorem setEmpty_empty (b : Bool) : (setEmpty b s).empty = b := rfl
@[simp] theorem setEmpty_ecause (b : Bool) : (setEmpty b s).ecause = s.ecause := rfl
@[simp] theorem setEmpty_ecmd (b : Bool) : (setEmpty b s).ecmd = s.ecmd := rfl
@[simp] theorem setEmpty_key (b : Bool) : (setEmpty b s).key = s.key := rfl
@[simp] theorem setEmpty_k1 (b : Bool) : (setEmpty b s).k1 = s.k1 := rfl
@[simp] theorem setEmpty_k2 (b : Bool) : (setEmpty b s).k2 = s.k2 := rfl
@[simp] theorem setEmpty_iv (b : Bool) : (setEmpty b s).iv = s.iv := rfl
@[simp] theorem setEmpty_chain (b : Bool) : (setEmpty b s).chain = s.chain := rfl
@[simp] theorem setEmpty_poolLen (b : Bool) : (setEmpty b s).poolLen = s.poolLen := rfl
@[simp] theorem setEmpty_pool (b : Bool) : (setEmpty b s).pool = s.pool := rfl
@[simp] theorem setEmpty_cfg (b : Bool) : (setEmpty b s).cfg = s.cfg := rfl
@[simp] theorem setEmpty_cmd (b : Bool) : (setEmpty b s).cmd = s.cmd := rfl
@[simp] theorem setEmpty_wdata (b : Bool) : (setEmpty b s).wdata = s.wdata := rfl
@[simp] theorem setEmpty_answer (b : Bool) : (setEmpty b s).answer = s.answer := rfl
@[simp] theorem setEmpty_inbox (b : Bool) : (setEmpty b s).inbox = s.inbox := rfl
@[simp] theorem setEmpty_draws (b : Bool) : (setEmpty b s).draws = s.draws := rfl
@[simp] theorem setEmpty_drawCount (b : Bool) : (setEmpty b s).drawCount = s.drawCount := rfl
@[simp] theorem setEmpty_written (b : Bool) : (setEmpty b s).written = s.written := rfl

/-! ### setMode -/

@[simp] theorem setMode_x (m : CipherMode) : (setMode m s).x = s.x := rfl
@[simp] theorem setMode_fault (m : CipherMode) : (setMode m s).fault = s.fault := rfl
@[simp] theorem setMode_keyv (m : CipherMode) : (setMode m s).keyv = s.keyv := rfl
@[simp] theorem setMode_ivv (m : CipherMode) : (setMode m s).ivv = s.ivv := rfl
@[simp] theorem setMode_mode (m : CipherMode) : (setMode m s).mode = m := rfl
@[simp] theorem setMode_empty (m : CipherMode) : (setMode m s).empty = s.empty := rfl
@[simp] theorem setMode_ecause (m : CipherMode) : (setMode m s).ecause = s.ecause := rfl
@[simp] theorem setMode_ecmd (m : CipherMode) : (setMode m s).ecmd = s.ecmd := rfl
@[simp] theorem setMode_key (m : CipherMode) : (setMode m s).key = s.key := rfl
@[simp] theorem setMode_k1 (m : CipherMode) : (setMode m s).k1 = s.k1 := rfl
@[simp] theorem setMode_k2 (m : CipherMode) : (setMode m s).k2 = s.k2 := rfl
@[simp] theorem setMode_iv (m : CipherMode) : (setMode m s).iv = s.iv := rfl
@[simp] theorem setMode_chain (m : CipherMode) : (setMode m s).chain = s.chain := rfl
@[simp] theorem setMode_poolLen (m : CipherMode) : (setMode m s).poolLen = s.poolLen := rfl
@[simp] theorem setMode_pool (m : CipherMode) : (setMode m s).pool = s.pool := rfl
@[simp] theorem setMode_cfg (m : CipherMode) : (setMode m s).cfg = s.cfg := rfl
@[simp] theorem setMode_cmd (m : CipherMode) : (setMode m s).cmd = s.cmd := rfl
@[simp] theorem setMode_wdata (m : CipherMode) : (setMode m s).wdata = s.wdata := rfl
@[simp] theorem setMode_answer (m : CipherMode) : (setMode m s).answer = s.answer := rfl
@[simp] theorem setMode_inbox (m : CipherMode) : (setMode m s).inbox = s.inbox := rfl
@[simp] theorem setMode_draws (m : CipherMode) : (setMode m s).draws = s.draws := rfl
@[simp] theorem setMode_drawCount (m : CipherMode) : (setMode m s).drawCount = s.drawCount := rfl
@[simp] theorem setMode_written (m : CipherMode) : (setMode m s).written = s.written := rfl

/-! ### setKey -/

@[simp] theorem setKey_x (k : BitVec 10) (a b : BitVec 8) : (setKey k a b s).x = s.x := rfl
@[simp] theorem setKey_fault (k : BitVec 10) (a b : BitVec 8) : (setKey k a b s).fault = s.fault := rfl
@[simp] theorem setKey_keyv (k : BitVec 10) (a b : BitVec 8) : (setKey k a b s).keyv = true := rfl
@[simp] theorem setKey_ivv (k : BitVec 10) (a b : BitVec 8) : (setKey k a b s).ivv = s.ivv := rfl
@[simp] theorem setKey_mode (k : BitVec 10) (a b : BitVec 8) : (setKey k a b s).mode = s.mode := rfl
@[simp] theorem setKey_empty (k : BitVec 10) (a b : BitVec 8) : (setKey k a b s).empty = s.empty := rfl
@[simp] theorem setKey_ecause (k : BitVec 10) (a b : BitVec 8) : (setKey k a b s).ecause = s.ecause := rfl
@[simp] theorem setKey_ecmd (k : BitVec 10) (a b : BitVec 8) : (setKey k a b s).ecmd = s.ecmd := rfl
@[simp] theorem setKey_key (k : BitVec 10) (a b : BitVec 8) : (setKey k a b s).key = k := rfl
@[simp] theorem setKey_k1 (k : BitVec 10) (a b : BitVec 8) : (setKey k a b s).k1 = a := rfl
@[simp] theorem setKey_k2 (k : BitVec 10) (a b : BitVec 8) : (setKey k a b s).k2 = b := rfl
@[simp] theorem setKey_iv (k : BitVec 10) (a b : BitVec 8) : (setKey k a b s).iv = s.iv := rfl
@[simp] theorem setKey_chain (k : BitVec 10) (a b : BitVec 8) : (setKey k a b s).chain = s.chain := rfl
@[simp] theorem setKey_poolLen (k : BitVec 10) (a b : BitVec 8) : (setKey k a b s).poolLen = s.poolLen := rfl
@[simp] theorem setKey_pool (k : BitVec 10) (a b : BitVec 8) : (setKey k a b s).pool = s.pool := rfl
@[simp] theorem setKey_cfg (k : BitVec 10) (a b : BitVec 8) : (setKey k a b s).cfg = s.cfg := rfl
@[simp] theorem setKey_cmd (k : BitVec 10) (a b : BitVec 8) : (setKey k a b s).cmd = s.cmd := rfl
@[simp] theorem setKey_wdata (k : BitVec 10) (a b : BitVec 8) : (setKey k a b s).wdata = s.wdata := rfl
@[simp] theorem setKey_answer (k : BitVec 10) (a b : BitVec 8) : (setKey k a b s).answer = s.answer := rfl
@[simp] theorem setKey_inbox (k : BitVec 10) (a b : BitVec 8) : (setKey k a b s).inbox = s.inbox := rfl
@[simp] theorem setKey_draws (k : BitVec 10) (a b : BitVec 8) : (setKey k a b s).draws = s.draws := rfl
@[simp] theorem setKey_drawCount (k : BitVec 10) (a b : BitVec 8) : (setKey k a b s).drawCount = s.drawCount := rfl
@[simp] theorem setKey_written (k : BitVec 10) (a b : BitVec 8) : (setKey k a b s).written = s.written := rfl

/-! ### loadKey -/

@[simp] theorem loadKey_x (k : BitVec 10) : (loadKey k s).x = s.x := rfl
@[simp] theorem loadKey_fault (k : BitVec 10) : (loadKey k s).fault = s.fault := rfl
@[simp] theorem loadKey_keyv (k : BitVec 10) : (loadKey k s).keyv = true := rfl
@[simp] theorem loadKey_ivv (k : BitVec 10) : (loadKey k s).ivv = s.ivv := rfl
@[simp] theorem loadKey_mode (k : BitVec 10) : (loadKey k s).mode = s.mode := rfl
@[simp] theorem loadKey_empty (k : BitVec 10) : (loadKey k s).empty = s.empty := rfl
@[simp] theorem loadKey_ecause (k : BitVec 10) : (loadKey k s).ecause = s.ecause := rfl
@[simp] theorem loadKey_ecmd (k : BitVec 10) : (loadKey k s).ecmd = s.ecmd := rfl
@[simp] theorem loadKey_key (k : BitVec 10) : (loadKey k s).key = k := rfl
@[simp] theorem loadKey_k1 (k : BitVec 10) : (loadKey k s).k1 = (subkeys s.cfg.tables k).1 := rfl
@[simp] theorem loadKey_k2 (k : BitVec 10) : (loadKey k s).k2 = (subkeys s.cfg.tables k).2 := rfl
@[simp] theorem loadKey_iv (k : BitVec 10) : (loadKey k s).iv = s.iv := rfl
@[simp] theorem loadKey_chain (k : BitVec 10) : (loadKey k s).chain = s.chain := rfl
@[simp] theorem loadKey_poolLen (k : BitVec 10) : (loadKey k s).poolLen = s.poolLen := rfl
@[simp] theorem loadKey_pool (k : BitVec 10) : (loadKey k s).pool = s.pool := rfl
@[simp] theorem loadKey_cfg (k : BitVec 10) : (loadKey k s).cfg = s.cfg := rfl
@[simp] theorem loadKey_cmd (k : BitVec 10) : (loadKey k s).cmd = s.cmd := rfl
@[simp] theorem loadKey_wdata (k : BitVec 10) : (loadKey k s).wdata = s.wdata := rfl
@[simp] theorem loadKey_answer (k : BitVec 10) : (loadKey k s).answer = s.answer := rfl
@[simp] theorem loadKey_inbox (k : BitVec 10) : (loadKey k s).inbox = s.inbox := rfl
@[simp] theorem loadKey_draws (k : BitVec 10) : (loadKey k s).draws = s.draws := rfl
@[simp] theorem loadKey_drawCount (k : BitVec 10) : (loadKey k s).drawCount = s.drawCount := rfl
@[simp] theorem loadKey_written (k : BitVec 10) : (loadKey k s).written = s.written := rfl

/-! ### setIv -/

@[simp] theorem setIv_x (v : BitVec 8) : (setIv v s).x = s.x := rfl
@[simp] theorem setIv_fault (v : BitVec 8) : (setIv v s).fault = s.fault := rfl
@[simp] theorem setIv_keyv (v : BitVec 8) : (setIv v s).keyv = s.keyv := rfl
@[simp] theorem setIv_ivv (v : BitVec 8) : (setIv v s).ivv = true := rfl
@[simp] theorem setIv_mode (v : BitVec 8) : (setIv v s).mode = s.mode := rfl
@[simp] theorem setIv_empty (v : BitVec 8) : (setIv v s).empty = s.empty := rfl
@[simp] theorem setIv_ecause (v : BitVec 8) : (setIv v s).ecause = s.ecause := rfl
@[simp] theorem setIv_ecmd (v : BitVec 8) : (setIv v s).ecmd = s.ecmd := rfl
@[simp] theorem setIv_key (v : BitVec 8) : (setIv v s).key = s.key := rfl
@[simp] theorem setIv_k1 (v : BitVec 8) : (setIv v s).k1 = s.k1 := rfl
@[simp] theorem setIv_k2 (v : BitVec 8) : (setIv v s).k2 = s.k2 := rfl
@[simp] theorem setIv_iv (v : BitVec 8) : (setIv v s).iv = v := rfl
@[simp] theorem setIv_chain (v : BitVec 8) : (setIv v s).chain = v := rfl
@[simp] theorem setIv_poolLen (v : BitVec 8) : (setIv v s).poolLen = s.poolLen := rfl
@[simp] theorem setIv_pool (v : BitVec 8) : (setIv v s).pool = s.pool := rfl
@[simp] theorem setIv_cfg (v : BitVec 8) : (setIv v s).cfg = s.cfg := rfl
@[simp] theorem setIv_cmd (v : BitVec 8) : (setIv v s).cmd = s.cmd := rfl
@[simp] theorem setIv_wdata (v : BitVec 8) : (setIv v s).wdata = s.wdata := rfl
@[simp] theorem setIv_answer (v : BitVec 8) : (setIv v s).answer = s.answer := rfl
@[simp] theorem setIv_inbox (v : BitVec 8) : (setIv v s).inbox = s.inbox := rfl
@[simp] theorem setIv_draws (v : BitVec 8) : (setIv v s).draws = s.draws := rfl
@[simp] theorem setIv_drawCount (v : BitVec 8) : (setIv v s).drawCount = s.drawCount := rfl
@[simp] theorem setIv_written (v : BitVec 8) : (setIv v s).written = s.written := rfl

/-! ### setChain -/

@[simp] theorem setChain_x (v : BitVec 8) : (setChain v s).x = s.x := rfl
@[simp] theorem setChain_fault (v : BitVec 8) : (setChain v s).fault = s.fault := rfl
@[simp] theorem setChain_keyv (v : BitVec 8) : (setChain v s).keyv = s.keyv := rfl
@[simp] theorem setChain_ivv (v : BitVec 8) : (setChain v s).ivv = s.ivv := rfl
@[simp] theorem setChain_mode (v : BitVec 8) : (setChain v s).mode = s.mode := rfl
@[simp] theorem setChain_empty (v : BitVec 8) : (setChain v s).empty = s.empty := rfl
@[simp] theorem setChain_ecause (v : BitVec 8) : (setChain v s).ecause = s.ecause := rfl
@[simp] theorem setChain_ecmd (v : BitVec 8) : (setChain v s).ecmd = s.ecmd := rfl
@[simp] theorem setChain_key (v : BitVec 8) : (setChain v s).key = s.key := rfl
@[simp] theorem setChain_k1 (v : BitVec 8) : (setChain v s).k1 = s.k1 := rfl
@[simp] theorem setChain_k2 (v : BitVec 8) : (setChain v s).k2 = s.k2 := rfl
@[simp] theorem setChain_iv (v : BitVec 8) : (setChain v s).iv = s.iv := rfl
@[simp] theorem setChain_chain (v : BitVec 8) : (setChain v s).chain = v := rfl
@[simp] theorem setChain_poolLen (v : BitVec 8) : (setChain v s).poolLen = s.poolLen := rfl
@[simp] theorem setChain_pool (v : BitVec 8) : (setChain v s).pool = s.pool := rfl
@[simp] theorem setChain_cfg (v : BitVec 8) : (setChain v s).cfg = s.cfg := rfl
@[simp] theorem setChain_cmd (v : BitVec 8) : (setChain v s).cmd = s.cmd := rfl
@[simp] theorem setChain_wdata (v : BitVec 8) : (setChain v s).wdata = s.wdata := rfl
@[simp] theorem setChain_answer (v : BitVec 8) : (setChain v s).answer = s.answer := rfl
@[simp] theorem setChain_inbox (v : BitVec 8) : (setChain v s).inbox = s.inbox := rfl
@[simp] theorem setChain_draws (v : BitVec 8) : (setChain v s).draws = s.draws := rfl
@[simp] theorem setChain_drawCount (v : BitVec 8) : (setChain v s).drawCount = s.drawCount := rfl
@[simp] theorem setChain_written (v : BitVec 8) : (setChain v s).written = s.written := rfl

/-! ### setPoolLen -/

@[simp] theorem setPoolLen_x (n : Nat) : (setPoolLen n s).x = s.x := rfl
@[simp] theorem setPoolLen_fault (n : Nat) : (setPoolLen n s).fault = s.fault := rfl
@[simp] theorem setPoolLen_keyv (n : Nat) : (setPoolLen n s).keyv = s.keyv := rfl
@[simp] theorem setPoolLen_ivv (n : Nat) : (setPoolLen n s).ivv = s.ivv := rfl
@[simp] theorem setPoolLen_mode (n : Nat) : (setPoolLen n s).mode = s.mode := rfl
@[simp] theorem setPoolLen_empty (n : Nat) : (setPoolLen n s).empty = s.empty := rfl
@[simp] theorem setPoolLen_ecause (n : Nat) : (setPoolLen n s).ecause = s.ecause := rfl
@[simp] theorem setPoolLen_ecmd (n : Nat) : (setPoolLen n s).ecmd = s.ecmd := rfl
@[simp] theorem setPoolLen_key (n : Nat) : (setPoolLen n s).key = s.key := rfl
@[simp] theorem setPoolLen_k1 (n : Nat) : (setPoolLen n s).k1 = s.k1 := rfl
@[simp] theorem setPoolLen_k2 (n : Nat) : (setPoolLen n s).k2 = s.k2 := rfl
@[simp] theorem setPoolLen_iv (n : Nat) : (setPoolLen n s).iv = s.iv := rfl
@[simp] theorem setPoolLen_chain (n : Nat) : (setPoolLen n s).chain = s.chain := rfl
@[simp] theorem setPoolLen_poolLen (n : Nat) : (setPoolLen n s).poolLen = n := rfl
@[simp] theorem setPoolLen_pool (n : Nat) : (setPoolLen n s).pool = s.pool := rfl
@[simp] theorem setPoolLen_cfg (n : Nat) : (setPoolLen n s).cfg = s.cfg := rfl
@[simp] theorem setPoolLen_cmd (n : Nat) : (setPoolLen n s).cmd = s.cmd := rfl
@[simp] theorem setPoolLen_wdata (n : Nat) : (setPoolLen n s).wdata = s.wdata := rfl
@[simp] theorem setPoolLen_answer (n : Nat) : (setPoolLen n s).answer = s.answer := rfl
@[simp] theorem setPoolLen_inbox (n : Nat) : (setPoolLen n s).inbox = s.inbox := rfl
@[simp] theorem setPoolLen_draws (n : Nat) : (setPoolLen n s).draws = s.draws := rfl
@[simp] theorem setPoolLen_drawCount (n : Nat) : (setPoolLen n s).drawCount = s.drawCount := rfl
@[simp] theorem setPoolLen_written (n : Nat) : (setPoolLen n s).written = s.written := rfl

/-! ### respond -/

@[simp] theorem respond_x (d : Word) : (respond d s).x = s.x := rfl
@[simp] theorem respond_fault (d : Word) : (respond d s).fault = s.fault := rfl
@[simp] theorem respond_keyv (d : Word) : (respond d s).keyv = s.keyv := rfl
@[simp] theorem respond_ivv (d : Word) : (respond d s).ivv = s.ivv := rfl
@[simp] theorem respond_mode (d : Word) : (respond d s).mode = s.mode := rfl
@[simp] theorem respond_empty (d : Word) : (respond d s).empty = s.empty := rfl
@[simp] theorem respond_ecause (d : Word) : (respond d s).ecause = s.ecause := rfl
@[simp] theorem respond_ecmd (d : Word) : (respond d s).ecmd = s.ecmd := rfl
@[simp] theorem respond_key (d : Word) : (respond d s).key = s.key := rfl
@[simp] theorem respond_k1 (d : Word) : (respond d s).k1 = s.k1 := rfl
@[simp] theorem respond_k2 (d : Word) : (respond d s).k2 = s.k2 := rfl
@[simp] theorem respond_iv (d : Word) : (respond d s).iv = s.iv := rfl
@[simp] theorem respond_chain (d : Word) : (respond d s).chain = s.chain := rfl
@[simp] theorem respond_poolLen (d : Word) : (respond d s).poolLen = s.poolLen := rfl
@[simp] theorem respond_pool (d : Word) : (respond d s).pool = s.pool := rfl
@[simp] theorem respond_cfg (d : Word) : (respond d s).cfg = s.cfg := rfl
@[simp] theorem respond_cmd (d : Word) : (respond d s).cmd = s.cmd := rfl
@[simp] theorem respond_wdata (d : Word) : (respond d s).wdata = s.wdata := rfl
@[simp] theorem respond_answer (d : Word) : (respond d s).answer = some ⟨.ok, d⟩ := rfl
@[simp] theorem respond_inbox (d : Word) : (respond d s).inbox = s.inbox := rfl
@[simp] theorem respond_draws (d : Word) : (respond d s).draws = s.draws := rfl
@[simp] theorem respond_drawCount (d : Word) : (respond d s).drawCount = s.drawCount := rfl
@[simp] theorem respond_written (d : Word) : (respond d s).written = s.written := rfl

/-! ### raise -/

@[simp] theorem raise_x (c : Cause) : (raise c s).x = s.x := rfl
@[simp] theorem raise_fault (c : Cause) : (raise c s).fault = true := rfl
@[simp] theorem raise_keyv (c : Cause) : (raise c s).keyv = s.keyv := rfl
@[simp] theorem raise_ivv (c : Cause) : (raise c s).ivv = s.ivv := rfl
@[simp] theorem raise_mode (c : Cause) : (raise c s).mode = s.mode := rfl
@[simp] theorem raise_empty (c : Cause) : (raise c s).empty = s.empty := rfl
@[simp] theorem raise_ecause (c : Cause) : (raise c s).ecause = c.code := rfl
@[simp] theorem raise_ecmd (c : Cause) : (raise c s).ecmd = s.cmd := rfl
@[simp] theorem raise_key (c : Cause) : (raise c s).key = s.key := rfl
@[simp] theorem raise_k1 (c : Cause) : (raise c s).k1 = s.k1 := rfl
@[simp] theorem raise_k2 (c : Cause) : (raise c s).k2 = s.k2 := rfl
@[simp] theorem raise_iv (c : Cause) : (raise c s).iv = s.iv := rfl
@[simp] theorem raise_chain (c : Cause) : (raise c s).chain = s.chain := rfl
@[simp] theorem raise_poolLen (c : Cause) : (raise c s).poolLen = s.poolLen := rfl
@[simp] theorem raise_pool (c : Cause) : (raise c s).pool = s.pool := rfl
@[simp] theorem raise_cfg (c : Cause) : (raise c s).cfg = s.cfg := rfl
@[simp] theorem raise_cmd (c : Cause) : (raise c s).cmd = s.cmd := rfl
@[simp] theorem raise_wdata (c : Cause) : (raise c s).wdata = s.wdata := rfl
@[simp] theorem raise_answer (c : Cause) : (raise c s).answer = some ⟨.err, 0⟩ := rfl
@[simp] theorem raise_inbox (c : Cause) : (raise c s).inbox = s.inbox := rfl
@[simp] theorem raise_draws (c : Cause) : (raise c s).draws = s.draws := rfl
@[simp] theorem raise_drawCount (c : Cause) : (raise c s).drawCount = s.drawCount := rfl
@[simp] theorem raise_written (c : Cause) : (raise c s).written = s.written := rfl

/-! ### acknowledge -/

@[simp] theorem acknowledge_x : (acknowledge s).x = s.x := rfl
@[simp] theorem acknowledge_fault : (acknowledge s).fault = false := rfl
@[simp] theorem acknowledge_keyv : (acknowledge s).keyv = s.keyv := rfl
@[simp] theorem acknowledge_ivv : (acknowledge s).ivv = s.ivv := rfl
@[simp] theorem acknowledge_mode : (acknowledge s).mode = s.mode := rfl
@[simp] theorem acknowledge_empty : (acknowledge s).empty = s.empty := rfl
@[simp] theorem acknowledge_ecause : (acknowledge s).ecause = 0 := rfl
@[simp] theorem acknowledge_ecmd : (acknowledge s).ecmd = 0 := rfl
@[simp] theorem acknowledge_key : (acknowledge s).key = s.key := rfl
@[simp] theorem acknowledge_k1 : (acknowledge s).k1 = s.k1 := rfl
@[simp] theorem acknowledge_k2 : (acknowledge s).k2 = s.k2 := rfl
@[simp] theorem acknowledge_iv : (acknowledge s).iv = s.iv := rfl
@[simp] theorem acknowledge_chain : (acknowledge s).chain = s.chain := rfl
@[simp] theorem acknowledge_poolLen : (acknowledge s).poolLen = s.poolLen := rfl
@[simp] theorem acknowledge_pool : (acknowledge s).pool = s.pool := rfl
@[simp] theorem acknowledge_cfg : (acknowledge s).cfg = s.cfg := rfl
@[simp] theorem acknowledge_cmd : (acknowledge s).cmd = s.cmd := rfl
@[simp] theorem acknowledge_wdata : (acknowledge s).wdata = s.wdata := rfl
@[simp] theorem acknowledge_answer : (acknowledge s).answer = s.answer := rfl
@[simp] theorem acknowledge_inbox : (acknowledge s).inbox = s.inbox := rfl
@[simp] theorem acknowledge_draws : (acknowledge s).draws = s.draws := rfl
@[simp] theorem acknowledge_drawCount : (acknowledge s).drawCount = s.drawCount := rfl
@[simp] theorem acknowledge_written : (acknowledge s).written = s.written := rfl

/-! ### reject -/

@[simp] theorem reject_x : (reject s).x = s.x := rfl
@[simp] theorem reject_fault : (reject s).fault = s.fault := rfl
@[simp] theorem reject_keyv : (reject s).keyv = s.keyv := rfl
@[simp] theorem reject_ivv : (reject s).ivv = s.ivv := rfl
@[simp] theorem reject_mode : (reject s).mode = s.mode := rfl
@[simp] theorem reject_empty : (reject s).empty = s.empty := rfl
@[simp] theorem reject_ecause : (reject s).ecause = s.ecause := rfl
@[simp] theorem reject_ecmd : (reject s).ecmd = s.ecmd := rfl
@[simp] theorem reject_key : (reject s).key = s.key := rfl
@[simp] theorem reject_k1 : (reject s).k1 = s.k1 := rfl
@[simp] theorem reject_k2 : (reject s).k2 = s.k2 := rfl
@[simp] theorem reject_iv : (reject s).iv = s.iv := rfl
@[simp] theorem reject_chain : (reject s).chain = s.chain := rfl
@[simp] theorem reject_poolLen : (reject s).poolLen = s.poolLen := rfl
@[simp] theorem reject_pool : (reject s).pool = s.pool := rfl
@[simp] theorem reject_cfg : (reject s).cfg = s.cfg := rfl
@[simp] theorem reject_cmd : (reject s).cmd = s.cmd := rfl
@[simp] theorem reject_wdata : (reject s).wdata = s.wdata := rfl
@[simp] theorem reject_answer : (reject s).answer = some ⟨.rej, 0⟩ := rfl
@[simp] theorem reject_inbox : (reject s).inbox = s.inbox := rfl
@[simp] theorem reject_draws : (reject s).draws = s.draws := rfl
@[simp] theorem reject_drawCount : (reject s).drawCount = s.drawCount := rfl
@[simp] theorem reject_written : (reject s).written = s.written := rfl

/-! ### takeDraw -/

@[simp] theorem takeDraw_x : (takeDraw s).x = s.x := rfl
@[simp] theorem takeDraw_fault : (takeDraw s).fault = s.fault := rfl
@[simp] theorem takeDraw_keyv : (takeDraw s).keyv = s.keyv := rfl
@[simp] theorem takeDraw_ivv : (takeDraw s).ivv = s.ivv := rfl
@[simp] theorem takeDraw_mode : (takeDraw s).mode = s.mode := rfl
@[simp] theorem takeDraw_empty : (takeDraw s).empty = s.empty := rfl
@[simp] theorem takeDraw_ecause : (takeDraw s).ecause = s.ecause := rfl
@[simp] theorem takeDraw_ecmd : (takeDraw s).ecmd = s.ecmd := rfl
@[simp] theorem takeDraw_key : (takeDraw s).key = s.key := rfl
@[simp] theorem takeDraw_k1 : (takeDraw s).k1 = s.k1 := rfl
@[simp] theorem takeDraw_k2 : (takeDraw s).k2 = s.k2 := rfl
@[simp] theorem takeDraw_iv : (takeDraw s).iv = s.iv := rfl
@[simp] theorem takeDraw_chain : (takeDraw s).chain = s.chain := rfl
@[simp] theorem takeDraw_poolLen : (takeDraw s).poolLen = s.poolLen := rfl
@[simp] theorem takeDraw_pool : (takeDraw s).pool = s.pool := rfl
@[simp] theorem takeDraw_cfg : (takeDraw s).cfg = s.cfg := rfl
@[simp] theorem takeDraw_cmd : (takeDraw s).cmd = s.cmd := rfl
@[simp] theorem takeDraw_wdata : (takeDraw s).wdata = s.wdata := rfl
@[simp] theorem takeDraw_answer : (takeDraw s).answer = s.answer := rfl
@[simp] theorem takeDraw_inbox : (takeDraw s).inbox = s.inbox := rfl
@[simp] theorem takeDraw_draws : (takeDraw s).draws = s.draws.tail := rfl
@[simp] theorem takeDraw_drawCount : (takeDraw s).drawCount = s.drawCount + 1 := rfl
@[simp] theorem takeDraw_written : (takeDraw s).written = s.written := rfl

/-! ### present -/

@[simp] theorem present_x (w : CmdWord) (d : Word) (ms : List HostMove) : (present w d ms s).x = s.x := rfl
@[simp] theorem present_fault (w : CmdWord) (d : Word) (ms : List HostMove) : (present w d ms s).fault = s.fault := rfl
@[simp] theorem present_keyv (w : CmdWord) (d : Word) (ms : List HostMove) : (present w d ms s).keyv = s.keyv := rfl
@[simp] theorem present_ivv (w : CmdWord) (d : Word) (ms : List HostMove) : (present w d ms s).ivv = s.ivv := rfl
@[simp] theorem present_mode (w : CmdWord) (d : Word) (ms : List HostMove) : (present w d ms s).mode = s.mode := rfl
@[simp] theorem present_empty (w : CmdWord) (d : Word) (ms : List HostMove) : (present w d ms s).empty = s.empty := rfl
@[simp] theorem present_ecause (w : CmdWord) (d : Word) (ms : List HostMove) : (present w d ms s).ecause = s.ecause := rfl
@[simp] theorem present_ecmd (w : CmdWord) (d : Word) (ms : List HostMove) : (present w d ms s).ecmd = s.ecmd := rfl
@[simp] theorem present_key (w : CmdWord) (d : Word) (ms : List HostMove) : (present w d ms s).key = s.key := rfl
@[simp] theorem present_k1 (w : CmdWord) (d : Word) (ms : List HostMove) : (present w d ms s).k1 = s.k1 := rfl
@[simp] theorem present_k2 (w : CmdWord) (d : Word) (ms : List HostMove) : (present w d ms s).k2 = s.k2 := rfl
@[simp] theorem present_iv (w : CmdWord) (d : Word) (ms : List HostMove) : (present w d ms s).iv = s.iv := rfl
@[simp] theorem present_chain (w : CmdWord) (d : Word) (ms : List HostMove) : (present w d ms s).chain = s.chain := rfl
@[simp] theorem present_poolLen (w : CmdWord) (d : Word) (ms : List HostMove) : (present w d ms s).poolLen = s.poolLen := rfl
@[simp] theorem present_pool (w : CmdWord) (d : Word) (ms : List HostMove) : (present w d ms s).pool = s.pool := rfl
@[simp] theorem present_cfg (w : CmdWord) (d : Word) (ms : List HostMove) : (present w d ms s).cfg = s.cfg := rfl
@[simp] theorem present_cmd (w : CmdWord) (d : Word) (ms : List HostMove) : (present w d ms s).cmd = w := rfl
@[simp] theorem present_wdata (w : CmdWord) (d : Word) (ms : List HostMove) : (present w d ms s).wdata = d := rfl
@[simp] theorem present_answer (w : CmdWord) (d : Word) (ms : List HostMove) : (present w d ms s).answer = s.answer := rfl
@[simp] theorem present_inbox (w : CmdWord) (d : Word) (ms : List HostMove) : (present w d ms s).inbox = ms := rfl
@[simp] theorem present_draws (w : CmdWord) (d : Word) (ms : List HostMove) : (present w d ms s).draws = s.draws := rfl
@[simp] theorem present_drawCount (w : CmdWord) (d : Word) (ms : List HostMove) : (present w d ms s).drawCount = s.drawCount := rfl
@[simp] theorem present_written (w : CmdWord) (d : Word) (ms : List HostMove) : (present w d ms s).written = s.written := rfl

/-! ### resetMove -/

@[simp] theorem resetMove_x (ms : List HostMove) : (resetMove ms s).x = State.reset.x := rfl
@[simp] theorem resetMove_fault (ms : List HostMove) : (resetMove ms s).fault = State.reset.fault := rfl
@[simp] theorem resetMove_keyv (ms : List HostMove) : (resetMove ms s).keyv = State.reset.keyv := rfl
@[simp] theorem resetMove_ivv (ms : List HostMove) : (resetMove ms s).ivv = State.reset.ivv := rfl
@[simp] theorem resetMove_mode (ms : List HostMove) : (resetMove ms s).mode = State.reset.mode := rfl
@[simp] theorem resetMove_empty (ms : List HostMove) : (resetMove ms s).empty = State.reset.empty := rfl
@[simp] theorem resetMove_ecause (ms : List HostMove) : (resetMove ms s).ecause = State.reset.ecause := rfl
@[simp] theorem resetMove_ecmd (ms : List HostMove) : (resetMove ms s).ecmd = State.reset.ecmd := rfl
@[simp] theorem resetMove_key (ms : List HostMove) : (resetMove ms s).key = State.reset.key := rfl
@[simp] theorem resetMove_k1 (ms : List HostMove) : (resetMove ms s).k1 = State.reset.k1 := rfl
@[simp] theorem resetMove_k2 (ms : List HostMove) : (resetMove ms s).k2 = State.reset.k2 := rfl
@[simp] theorem resetMove_iv (ms : List HostMove) : (resetMove ms s).iv = State.reset.iv := rfl
@[simp] theorem resetMove_chain (ms : List HostMove) : (resetMove ms s).chain = State.reset.chain := rfl
@[simp] theorem resetMove_poolLen (ms : List HostMove) : (resetMove ms s).poolLen = State.reset.poolLen := rfl
@[simp] theorem resetMove_pool (ms : List HostMove) : (resetMove ms s).pool = State.reset.pool := rfl
@[simp] theorem resetMove_cfg (ms : List HostMove) : (resetMove ms s).cfg = s.cfg := rfl
@[simp] theorem resetMove_cmd (ms : List HostMove) : (resetMove ms s).cmd = State.reset.cmd := rfl
@[simp] theorem resetMove_wdata (ms : List HostMove) : (resetMove ms s).wdata = State.reset.wdata := rfl
@[simp] theorem resetMove_answer (ms : List HostMove) : (resetMove ms s).answer = State.reset.answer := rfl
@[simp] theorem resetMove_inbox (ms : List HostMove) : (resetMove ms s).inbox = ms := rfl
@[simp] theorem resetMove_draws (ms : List HostMove) : (resetMove ms s).draws = s.draws := rfl
@[simp] theorem resetMove_drawCount (ms : List HostMove) : (resetMove ms s).drawCount = s.drawCount := rfl
@[simp] theorem resetMove_written (ms : List HostMove) : (resetMove ms s).written = State.reset.written := rfl

end Sys2Proof.Machine
end

