-- ==== Sys2Proof/Laws/Ops.lean ====
section
/-!
SUPPORT. One lemma per shared operation that says what it can do: registers, pool words, draws, admission, the step.
-/

namespace Sys2Proof.Machine

/-- A register after a register write (spec 10 R12: no aliases). -/
theorem readReg_writeReg (r q : Reg) (v : Word) (s : State) :
    readReg r (writeReg q v s) = if q = r then v else readReg r s := by
  simp [readReg, writeReg, Vector.getElem_set, Fin.ext_iff]

/-- The written bits after a register write (93 U1). -/
theorem written_writeReg (r q : Reg) (v : Word) (s : State) :
    (writeReg q v s).written[r] = if q = r then true else s.written[r] := by
  simp [Vector.getElem_set, Fin.ext_iff]

theorem regAfter_eq (r : Reg) (k : Nat) : regAfter r k = r + Fin.ofNat 16 k := by
  apply Fin.ext
  simp [regAfter, Fin.val_add]

/-- A pool word after a pool write (20 R37). -/
theorem poolRead_poolWrite (i j : Nat) (v : Word) (s : State) :
    poolRead j (poolWrite i v s) = if j = i then v else poolRead j s := Memory.read_write s.pool i j v

/-- A pool write keeps the canonical form. -/
theorem poolWrite_wf {s : State} (i : Nat) (v : Word) (h : Memory.wf s.pool) : Memory.wf (poolWrite i v s).pool :=
  Memory.wf_write i v h

/-- A pool word is the blank word or that of a cell. -/
theorem poolRead_cases (i : Nat) (s : State) : poolRead i s = Memory.blank ∨ (i, poolRead i s) ∈ s.pool :=
  Memory.read_cases s.pool i

/-- A draw has its width (10 R27). -/
theorem drawValue_lt (n : Nat) (s : State) : drawValue n s < 2 ^ n := Nat.mod_lt _ (by positivity)

/-- An injected value is the draw (10 R27, "injectable"). -/
theorem drawValue_injected {n d : Nat} {ds : List Nat} {s : State} (h : s.draws = d :: ds) :
    drawValue n s = d % 2 ^ n := by simp [drawValue, h]

/-- What admission answers (60 R124, R126, 30 R48). -/
theorem filterWord_cases (d : Decoded) (s : State) :
    (∃ i, d = .command i ∧ (s.fault = false ∨ acceptedInFault i = true) ∧ filterWord d s = .execute i s) ∨
      (∃ i, d = .command i ∧ s.fault = true ∧ acceptedInFault i = false ∧ filterWord d s = .answered (reject s)) ∨
      (∃ why, d = .reserved why ∧ s.fault = true ∧ filterWord d s = .answered (reject s)) ∨
      ∃ why, d = .reserved why ∧ s.fault = false ∧ filterWord d s = .answered (raise .reservedEncoding s) := by
  cases d with
  | reserved why => cases h : s.fault <;> simp [filterWord, h]
  | command i => cases h : s.fault <;> cases ha : acceptedInFault i <;> simp [filterWord, h, ha]

/-- What a step can do (70 R150): hold, reset, drop a word, raise on a reserved one, or execute a command. -/
theorem step_cases (s : State) :
    (s.inbox = [] ∧ step s = .next s) ∨
      (∃ rest, s.inbox = .reset :: rest ∧ step s = .next (resetMove rest s)) ∨
      ∃ w d rest, s.inbox = .transaction w d :: rest ∧
        ((∃ i, decode w = .command i ∧ (s.fault = false ∨ acceptedInFault i = true) ∧
            step s = exec i (present w d rest s)) ∨
          (s.fault = true ∧ (∀ i, decode w = .command i → acceptedInFault i = false) ∧
            step s = .next (reject (present w d rest s))) ∨
          ∃ why, decode w = .reserved why ∧ s.fault = false ∧
            step s = .next (raise .reservedEncoding (present w d rest s))) := by
  unfold step
  match hin : s.inbox with
  | [] => exact .inl ⟨rfl, rfl⟩
  | .reset :: rest => exact .inr (.inl ⟨rest, rfl, rfl⟩)
  | .transaction w d :: rest =>
    refine .inr (.inr ⟨w, d, rest, rfl, ?_⟩)
    rcases filterWord_cases (decode w) (present w d rest s) with ⟨i, hd, hf, ha⟩ | ⟨i, hd, hf, hn, ha⟩ | ⟨why, hd, hf, ha⟩ |
      ⟨why, hd, hf, ha⟩
    · exact .inl ⟨i, hd, hf, by simp [ha]⟩
    · exact .inr (.inl ⟨hf, fun j hj => by simp_all, by simp [ha]⟩)
    · exact .inr (.inl ⟨hf, fun j hj => by simp_all, by simp [ha]⟩)
    · exact .inr (.inr ⟨why, hd, hf, by simp [ha]⟩)

end Sys2Proof.Machine
end

