-- ==== Sys2Proof/Laws/PerInstr.lean ====
section
/-!
SUPPORT. One lemma per command: the word of a well-formed command meets its own row of the opcode map, that is
`(w AND mask) = match` (spec 30 R47).
-/

namespace Sys2Proof.Laws.EncodesItsRow

/-- The word of the command, under the mask of its row, is the row's pattern. -/
def Statement (i : Instr) : Prop := i.wellFormed = true → encode i &&& i.opcode.mask = i.opcode.pattern

/-- A mask that covers the opcode and every field the row does not use leaves the pattern. -/
theorem masked {o : Opcode} {op : BitVec 8} {rd ra rb rm : Reg} {imm8 : BitVec 8} (md ma mb mm : Reg) (mi : BitVec 8)
    (hm : o.mask = commandWord 0xFF md ma mb mm mi) (hp : commandWord (op &&& 0xFF) 0 0 0 0 0 = o.pattern)
    (hd : rd &&& md = 0 := by simp) (ha : ra &&& ma = 0 := by simp) (hb : rb &&& mb = 0 := by simp)
    (hr : rm &&& mm = 0 := by simp) (hi : imm8 &&& mi = 0 := by simp) :
    commandWord op rd ra rb rm imm8 &&& o.mask = o.pattern := by
  rw [hm, commandWord_and, hd, ha, hb, hr, hi, hp]

theorem nop : Statement .nop := fun _ => by decide

theorem wr (rd : Reg) : Statement (.wr rd) := fun _ =>
  masked (o := .wr) 0 15 15 15 0xFF (by decide) (by decide)

theorem rd (ra : Reg) : Statement (.rd ra) := fun _ =>
  masked (o := .rd) 15 0 15 15 0xFF (by decide) (by decide)

theorem csrr (csr : Csr) : Statement (.csrr csr) := fun _ => by cases csr <;> decide

theorem errack : Statement .errack := fun _ => by decide

theorem mulmod (rd ra rb rm : Reg) : Statement (.mulmod rd ra rb rm) := fun _ =>
  masked (o := .mulmod) 0 0 0 0 0xFF (by decide) (by decide)

theorem powmod (rd ra rb rm : Reg) (neg : Bool) : Statement (.powmod rd ra rb rm neg) := fun _ =>
  masked (o := .powmod) 0 0 0 0 0xFE (by decide) (by decide) (hi := by cases neg <;> decide)

theorem gcd (rd ra rb : Reg) : Statement (.gcd rd ra rb) := fun _ =>
  masked (o := .gcd) 0 0 0 15 0xFF (by decide) (by decide)

theorem modinv (rd ra rm : Reg) : Statement (.modinv rd ra rm) := fun _ =>
  masked (o := .modinv) 0 0 15 0 0xFF (by decide) (by decide)

theorem findgen (rd ra : Reg) : Statement (.findgen rd ra) := fun _ =>
  masked (o := .findgen) 0 0 15 15 0xFF (by decide) (by decide)

theorem rsagen (rd ra rb : Reg) : Statement (.rsagen rd ra rb) := fun h =>
  masked (o := .rsagen) 3 0 0 15 0xFF (by decide) (by decide)
    (hd := (by decide : ∀ r : Reg, (r.val % 4 == 0) = true → r &&& 3 = 0) rd h)

theorem poolclr : Statement .poolclr := fun _ => by decide

theorem poolpush (ra : Reg) : Statement (.poolpush ra) := fun _ =>
  masked (o := .poolpush) 15 0 15 15 0xFF (by decide) (by decide)

theorem poolrd (rd ra : Reg) : Statement (.poolrd rd ra) := fun _ =>
  masked (o := .poolrd) 0 0 15 15 0xFF (by decide) (by decide)

theorem sample (rd : Reg) : Statement (.sample rd) := fun _ =>
  masked (o := .sample) 0 15 15 15 0xFF (by decide) (by decide)

theorem keyset (ra : Reg) : Statement (.keyset ra) := fun _ =>
  masked (o := .keyset) 15 0 15 15 0xFF (by decide) (by decide)

theorem keydrv (ra : Reg) : Statement (.keydrv ra) := fun _ =>
  masked (o := .keydrv) 15 0 15 15 0xFF (by decide) (by decide)

theorem fenc (rd ra : Reg) : Statement (.fenc rd ra) := fun _ =>
  masked (o := .fenc) 0 0 15 15 0xFF (by decide) (by decide)

theorem fdec (rd ra : Reg) : Statement (.fdec rd ra) := fun _ =>
  masked (o := .fdec) 0 0 15 15 0xFF (by decide) (by decide)

theorem setmode (mode : CipherMode) : Statement (.setmode mode) := fun _ => by cases mode <;> decide

theorem ivset (ra : Reg) : Statement (.ivset ra) := fun _ =>
  masked (o := .ivset) 15 0 15 15 0xFF (by decide) (by decide)

theorem ivgen : Statement .ivgen := fun _ => by decide

theorem mstart : Statement .mstart := fun _ => by decide

theorem cenc (rd ra : Reg) : Statement (.cenc rd ra) := fun _ =>
  masked (o := .cenc) 0 0 15 15 0xFF (by decide) (by decide)

theorem cdec (rd ra : Reg) : Statement (.cdec rd ra) := fun _ =>
  masked (o := .cdec) 0 0 15 15 0xFF (by decide) (by decide)

end Sys2Proof.Laws.EncodesItsRow
end

