-- ==== Sys2Proof/Machine/Assembly.lean ====
section
/-!
DEFINITION. The assembler syntax and the pseudo-instructions (spec 30 R52, R53). Notation only: no step reads it.
-/

namespace Sys2Proof.Machine

/-- The mnemonic of a row of 30 R47. -/
def Opcode.text : Opcode → String
  | .nop => "NOP"
  | .wr => "WR"
  | .rd => "RD"
  | .csrr => "CSRR"
  | .errack => "ERRACK"
  | .mulmod => "MULMOD"
  | .powmod => "POWMOD"
  | .gcd => "GCD"
  | .modinv => "MODINV"
  | .findgen => "FINDGEN"
  | .rsagen => "RSAGEN"
  | .poolclr => "POOLCLR"
  | .poolpush => "POOLPUSH"
  | .poolrd => "POOLRD"
  | .sample => "SAMPLE"
  | .keyset => "KEYSET"
  | .keydrv => "KEYDRV"
  | .fenc => "FENC"
  | .fdec => "FDEC"
  | .setmode => "SETMODE"
  | .ivset => "IVSET"
  | .ivgen => "IVGEN"
  | .mstart => "MSTART"
  | .cenc => "CENC"
  | .cdec => "CDEC"

/-- A register's assembler name (10 R11). -/
def regText (r : Reg) : String := "x" ++ toString r.val

/-- A control register's name (30 R52). -/
def csrText : Csr → String
  | .status => "STATUS"
  | .ecause => "ECAUSE"
  | .ecmd => "ECMD"
  | .key => "KEY"
  | .k1 => "K1"
  | .k2 => "K2"
  | .iv => "IV"
  | .chain => "CHAIN"
  | .poollen => "POOLLEN"
  | .poolcap => "POOLCAP"
  | .width => "WIDTH"

/-- A mode operand (30 R52). -/
def modeText : CipherMode → String
  | .ecb => "ECB"
  | .cbc => "CBC"

/-- The operands of a line, in the order of the "operands" column of 30 R47. `wdata` is WR's value. -/
def operandTexts (i : Instr) (wdata : Word) : List String :=
  match i with
  | .nop | .errack | .poolclr | .ivgen | .mstart => []
  | .wr rd => [regText rd, toString wdata]
  | .rd r | .poolpush r | .sample r | .keyset r | .keydrv r | .ivset r => [regText r]
  | .csrr csr => [csrText csr]
  | .mulmod rd ra rb rm => [regText rd, regText ra, regText rb, regText rm]
  | .powmod rd ra rb rm neg => [regText rd, regText ra, regText rb, regText rm] ++ if neg then ["neg"] else []
  | .gcd a b c | .modinv a b c | .rsagen a b c => [regText a, regText b, regText c]
  | .findgen rd ra | .poolrd rd ra | .fenc rd ra | .fdec rd ra | .cenc rd ra | .cdec rd ra => [regText rd, regText ra]
  | .setmode mode => [modeText mode]

/-- One assembler line: the mnemonic, then the operands separated by commas (30 R52). -/
def asmLine (i : Instr) (wdata : Word) : String :=
  match operandTexts i wdata with
  | [] => Opcode.text i.opcode
  | ops => Opcode.text i.opcode ++ " " ++ String.intercalate ", " ops

/-- `LI xd, value` is `WR xd, value` (30 R53). -/
def pseudoLi (rd : Reg) (value : Word) : HostMove := .transaction (encode (.wr rd)) value

/-- `MODE.ECB` is `SETMODE ECB` (30 R53). -/
def pseudoModeEcb : CmdWord := encode (.setmode .ecb)

/-- `MODE.CBC` is `SETMODE CBC` (30 R53). -/
def pseudoModeCbc : CmdWord := encode (.setmode .cbc)

/-- `MOV xd, xs`: `RD xs`, then `WR xd` with the `rdata` returned, which the host carries (30 R53). -/
def pseudoMov (rd rs : Reg) : CmdWord × (Word → HostMove) :=
  (encode (.rd rs), fun rdata => .transaction (encode (.wr rd)) rdata)

/-- `GETCSR xd, csr`: `CSRR csr`, then `WR xd` with the `rdata` returned (30 R53). -/
def pseudoGetcsr (rd : Reg) (csr : Csr) : CmdWord × (Word → HostMove) :=
  (encode (.csrr csr), fun rdata => .transaction (encode (.wr rd)) rdata)

end Sys2Proof.Machine
end

