-- ==== Sys2Proof/Tests/Slice0.lean ====
section
/-!
SUPPORT. Tests: words written out from the rows of spec 30 R47 and the words of 95, one ill-formed term per check of
WellFormed, single steps with the vectors of 95, and for each obligation with hypotheses a state and operands that meet
them. Every expected value is the spec's.
-/

namespace Sys2Proof.Tests

open Sys2Proof.Machine

/-! ## Helpers -/

/-- The reset state with some registers written. -/
def regs (l : List (Reg × Word)) : State := l.foldl (fun s p => writeReg p.1 p.2 s) State.reset

/-- The state with one transaction presented. -/
def withMove (w : CmdWord) (d : Word) (s : State) : State := { s with inbox := [.transaction w d] }

/-- The state after one presented word. -/
def after (w : CmdWord) (d : Word) (s : State) : Option State :=
  match step (withMove w d s) with
  | .next t => some t
  | .fault _ => none
  | .refused _ => none

/-- A register after one presented word. -/
def reg (r : Reg) (w : CmdWord) (s : State) : Option Word := (after w 0 s).map (readReg r)

/-- ECAUSE after one presented word. -/
def cause (w : CmdWord) (s : State) : Option (BitVec 8) := (after w 0 s).map (·.ecause)

/-- The answer to one presented word. -/
def answer (w : CmdWord) (s : State) : Option (Option Answer) := (after w 0 s).map (·.answer)

/-- A fault that nobody has acknowledged (95 section 2.7). -/
def faulty : State := { regs [(1, 5)] with fault := true, ecause := 0x61, ecmd := 0xFFFFFFFF }

/-- KEY 0x282 loaded (95 section 2.5). -/
def keyed (l : List (Reg × Word)) : State := { regs l with key := 0x282, k1 := 0xA4, k2 := 0x43, keyv := true }

/-- KEY 0x282, CBC mode, IV 0xA5, CHAIN 0xA5 (95 section 2.6). -/
def chained (l : List (Reg × Word)) : State :=
  { keyed l with mode := .cbc, iv := 0xA5, chain := 0xA5, ivv := true }

/-- The pool 23, 61, 53 (95 section 2.4). -/
def pooled (l : List (Reg × Word)) : State := { regs l with pool := [(0, 23), (1, 61), (2, 53)], poolLen := 3 }

/-- The invariant as a computation. -/
def invCheck (s : State) : Bool :=
  s.cfg.wellFormed && decide (∀ r : Reg, Fits s.cfg.w s.x[r]) && decide (Memory.wf s.pool) &&
  decide (∀ c ∈ s.pool, c.1 < s.cfg.poolCap ∧ Fits s.cfg.w c.2) && decide (s.poolLen ≤ s.cfg.poolCap) &&
  decide (s.fault = false → s.ecause = 0 ∧ s.ecmd = 0) && decide (s.fault = true → s.ecause = Cause.reservedEncoding.code) &&
  decide (s.keyv = true → (s.k1, s.k2) = subkeys s.cfg.tables s.key) &&
  decide (s.keyv = false → s.key = 0 ∧ s.k1 = 0 ∧ s.k2 = 0) && decide (s.ivv = false → s.iv = 0 ∧ s.chain = 0) &&
  decide (s.wdata = 0) && s.inbox.isEmpty && s.answer.isNone

theorem inv_of_check {s : State} (h : invCheck s = true) : s.Inv := by
  simp only [invCheck, Bool.and_eq_true, decide_eq_true_eq, List.isEmpty_iff, Option.isNone_iff_eq_none] at h
  obtain ⟨⟨⟨⟨⟨⟨⟨⟨⟨⟨⟨⟨h1, h2⟩, h3⟩, h4⟩, h5⟩, h6⟩, h7⟩, h8⟩, h9⟩, h10⟩, h11⟩, h12⟩, h13⟩ := h
  exact ⟨h1, h2, h3, h4, h5, h6, fun hf => ⟨_, h7 hf⟩, h8, h9, h10, h11 ▸ Nat.two_pow_pos _, by simp [h12], by simp [h13]⟩

/-! ## Decoding: a word of every row (30 R47) -/

theorem test_decode_host_commands :
    decode 0b00000000000000000000000000000000#32 = .command .nop ∧
    decode 0b00000001111100000000000000000000#32 = .command (.wr 15) ∧
    decode 0b00000010000011110000000000000000#32 = .command (.rd 15) ∧
    decode 0b00000011000000000000000000001010#32 = .command (.csrr .width) ∧
    decode 0b00000100000000000000000000000000#32 = .command .errack := by decide

theorem test_decode_arithmetic :
    decode 0b00010000001100010010010000000000#32 = .command (.mulmod 3 1 2 4) ∧
    decode 0b00010001010000010010001100000000#32 = .command (.powmod 4 1 2 3 false) ∧
    decode 0b00100000001100010010000000000000#32 = .command (.gcd 3 1 2) ∧
    decode 0b00100001001100010000001000000000#32 = .command (.modinv 3 1 2) ∧
    decode 0b00100010001000010000000000000000#32 = .command (.findgen 2 1) ∧
    decode 0b00100011010000010010000000000000#32 = .command (.rsagen 4 1 2) := by decide

theorem test_decode_pool :
    decode 0b00101000000000000000000000000000#32 = .command .poolclr ∧
    decode 0b00101001000000010000000000000000#32 = .command (.poolpush 1) ∧
    decode 0b00101010001000010000000000000000#32 = .command (.poolrd 2 1) ∧
    decode 0b00101011000100000000000000000000#32 = .command (.sample 1) := by decide

theorem test_decode_cipher :
    decode 0b00110000000000010000000000000000#32 = .command (.keyset 1) ∧
    decode 0b00110001000001000000000000000000#32 = .command (.keydrv 4) ∧
    decode 0b00110010001000010000000000000000#32 = .command (.fenc 2 1) ∧
    decode 0b00110011001000010000000000000000#32 = .command (.fdec 2 1) := by decide

theorem test_decode_modes :
    decode 0b01000000000000000000000000000001#32 = .command (.setmode .cbc) ∧
    decode 0b01000001000000010000000000000000#32 = .command (.ivset 1) ∧
    decode 0b01000010000000000000000000000000#32 = .command .ivgen ∧
    decode 0b01000011000000000000000000000000#32 = .command .mstart ∧
    decode 0b01000100010000110000000000000000#32 = .command (.cenc 4 3) ∧
    decode 0b01000101011101000000000000000000#32 = .command (.cdec 7 4) := by decide

/-- The decoder refuses the word. -/
def isReserved (w : CmdWord) : Bool :=
  match decode w with
  | .reserved _ => true
  | .command _ => false

/-- The reserved words of 95 section 2.7: unassigned opcodes. -/
theorem test_decode_unassigned :
    isReserved 0xFFFFFFFF ∧ isReserved 0x05000000 ∧ isReserved 0x0F000000 ∧ isReserved 0x12000000 ∧
    isReserved 0x24000000 ∧ isReserved 0x2C000000 ∧ isReserved 0x34000000 ∧ isReserved 0x46000000 ∧
    isReserved 0x80000000 := by decide

/-- The reserved words of 95 section 2.7: listed opcodes. -/
theorem test_decode_fixed_bits :
    isReserved 0x00000001 ∧ isReserved 0x01100001 ∧ isReserved 0x02F00000 ∧ isReserved 0x10312401 ∧
    isReserved 0x11412302 ∧ isReserved 0x11412303 ∧ isReserved 0x20312100 ∧ isReserved 0x21311200 ∧
    isReserved 0x23512000 ∧ isReserved 0x2B110000 ∧ isReserved 0x0300000B ∧ isReserved 0x40000002 := by decide

/-! ## WellFormed: an ill-formed term for each check -/

theorem test_rsagen_rd_multiple_of_four :
    (Instr.rsagen 5 1 2).wellFormed = false ∧ (Instr.rsagen 12 1 2).wellFormed = true := by decide

theorem test_config_ill_formed :
    ({ defaultConfig with w := 31 } : Config).wellFormed = false ∧
    ({ defaultConfig with poolCap := 0 } : Config).wellFormed = false ∧
    ({ defaultConfig with poolCap := 4294967296 } : Config).wellFormed = false ∧
    ({ defaultConfig with eDefault := 65536 } : Config).wellFormed = false ∧
    ({ defaultConfig with eDefault := 1 } : Config).wellFormed = false ∧
    ({ defaultConfig with eDefault := 4294967297 } : Config).wellFormed = false ∧
    ({ defaultConfig with tables := { teachingTables with ls1 := 5 } } : Config).wellFormed = false ∧
    defaultConfig.wellFormed = true := by decide

theorem test_tables_ill_formed :
    { teachingTables with p10 := #v[3, 3, 2, 7, 4, 10, 1, 9, 8, 6] }.wellFormed = false ∧
    { teachingTables with p8 := #v[6, 3, 7, 4, 8, 5, 11, 9] }.wellFormed = false ∧
    { teachingTables with ls1 := 5 }.wellFormed = false ∧
    { teachingTables with ls2 := 5 }.wellFormed = false ∧
    { teachingTables with ip := #v[2, 6, 3, 1, 4, 8, 5, 5] }.wellFormed = false ∧
    { teachingTables with fp := #v[4, 1, 3, 5, 7, 2, 6, 8] }.wellFormed = false ∧
    { teachingTables with ep := #v[5, 1, 2, 3, 2, 3, 4, 1] }.wellFormed = false ∧
    { teachingTables with p4 := #v[2, 4, 3, 2] }.wellFormed = false := by decide

/-! ## Single steps (95 part 2) -/

theorem test_first_step_after_reset :
    (match step (State.reset.withFetchWord 32 0x03000009) with
      | .next t => t.answer
      | .fault _ => none
      | .refused _ => none) = some ⟨.ok, 256⟩ := by decide

theorem test_nop : after 0x00000000 9 faulty = some { faulty with cmd := 0, wdata := 9, answer := some ⟨.ok, 0⟩ } := by
  decide

theorem test_wr : (after 0x01F00000 0xFFFFFFFF State.reset).map (readReg 15) = some 4294967295 := by decide

theorem test_wr_dropped_in_fault : (after 0x01100000 7 faulty).map (fun t => (t.x[1], t.answer)) = some (5, some ⟨.rej, 0⟩) := by
  decide

theorem test_rd : answer 0x02030000 (regs [(3, 8)]) = some (some ⟨.ok, 8⟩) := by decide

theorem test_csrr_status : answer 0x03000000 (chained []) = some (some ⟨.ok, 0x0E⟩) := by decide

theorem test_csrr_in_fault :
    answer 0x03000001 faulty = some (some ⟨.ok, 0x61⟩) ∧ answer 0x03000002 faulty = some (some ⟨.ok, 0xFFFFFFFF⟩) := by
  decide

theorem test_errack :
    (after 0x04000000 0 faulty).map (fun t => (t.fault, t.ecause, t.ecmd)) = some (false, 0, 0) := by decide

theorem test_mulmod : reg 3 0x10312400 (regs [(1, 0x10001), (2, 0x10001), (4, 4294967291)]) = some 131078 := by decide

theorem test_mulmod_operands_order :
    reg 3 0x10312400 (regs [(1, 10), (2, 3), (4, 7)]) = some 2 ∧ cause 0x10312400 (regs [(1, 5), (2, 5), (4, 0)]) = some 0x11 := by
  decide

theorem test_powmod : reg 4 0x11412300 (regs [(1, 5), (2, 6), (3, 23)]) = some 8 := by decide +kernel

theorem test_powmod_all_exponent_bits :
    reg 4 0x11412300 (regs [(1, 2), (2, 0xFFFFFFFF), (3, 4294967291)]) = some 32 := by decide +kernel

theorem test_gcd : reg 3 0x20312000 (regs [(1, 48), (2, 18)]) = some 6 := by decide

theorem test_modinv : reg 3 0x21310200 (regs [(1, 17), (2, 3120)]) = some 2753 := by decide +kernel

theorem test_modinv_edges :
    reg 3 0x21310200 (regs [(1, 5), (2, 1)]) = some 0 ∧ cause 0x21310200 (regs [(1, 6), (2, 9)]) = some 0x16 := by
  decide +kernel

theorem test_findgen : reg 2 0x22210000 (regs [(1, 23)]) = some 5 := by decide +kernel

theorem test_findgen_sentinel :
    (after 0x22210000 0 (regs [(1, 9), (2, 77)])).map (fun t => (t.x[2], t.ecause, t.ecmd)) =
      some (0, 0x51, 0x22210000) := by decide +kernel

theorem test_rsagen :
    (after 0x23412000 0 (regs [(1, 61), (2, 53)])).map (fun t => (t.x[4], t.x[5], t.x[6], t.x[7])) =
      some (3233, 3120, 65537, 2753) := by decide +kernel

theorem test_rsagen_search :
    (after 0x23412000 0 (regs [(1, 917519), (2, 7)])).map (fun t => (t.x[6], t.x[7])) = some (5, 3303065) := by
  decide +kernel

theorem test_poolclr : (after 0x28000000 0 (pooled [])).map (·.poolLen) = some 0 := by decide

theorem test_poolpush :
    (after 0x29010000 0 (regs [(1, 23)])).map (fun t => (t.poolLen, poolRead 0 t)) = some (1, 23) := by decide

theorem test_poolpush_full :
    cause 0x29010000 { regs [(1, 23)] with poolLen := 256 } = some 0x64 := by decide

theorem test_poolrd : reg 2 0x2A210000 (pooled [(1, 2)]) = some 53 ∧ cause 0x2A210000 (pooled [(1, 3)]) = some 0x65 := by
  decide

theorem test_sample :
    (after 0x2B100000 0 { pooled [] with draws := [7] }).map (fun t => (t.x[1], t.empty, t.draws)) =
      some (61, false, []) := by decide

theorem test_sample_empty :
    (after 0x2B100000 0 { regs [(1, 9)] with draws := [7] }).map (fun t => (t.x[1], t.empty, t.fault, t.draws)) =
      some (0, true, false, [7]) := by decide

theorem test_keyset :
    (after 0x30010000 0 (regs [(1, 0x282)])).map (fun t => (t.key, t.k1, t.k2, t.keyv)) =
      some (0x282, 0xA4, 0x43, true) := by decide

theorem test_keydrv :
    (after 0x31040000 0 (regs [(4, 3233)])).map (fun t => (t.key, t.k1, t.k2)) = some (0x0A1, 0x06, 0x58) := by decide

theorem test_fenc : reg 2 0x32210000 (keyed [(1, 0x72)]) = some 0x77 := by decide +kernel

theorem test_fdec : reg 2 0x33210000 (keyed [(1, 0x72)]) = some 0x78 := by decide +kernel

theorem test_setmode : (after 0x40000001 0 State.reset).map (·.mode) = some .cbc := by decide

theorem test_ivset :
    (after 0x41010000 0 (regs [(1, 0xA5)])).map (fun t => (t.iv, t.chain, t.ivv)) = some (0xA5, 0xA5, true) := by decide

theorem test_ivgen :
    (after 0x42000000 0 { State.reset with draws := [0x3C] }).map (fun t => (t.iv, t.chain, t.ivv)) =
      some (0x3C, 0x3C, true) := by decide

theorem test_mstart :
    (after 0x43000000 0 { chained [] with chain := 0xA4 }).map (·.chain) = some 0xA5 := by decide

theorem test_cenc :
    (after 0x44430000 0 (chained [(3, 0x48)])).map (fun t => (t.x[4], t.chain)) = some (0xE4, 0xE4) := by decide +kernel

theorem test_cenc_ecb :
    (after 0x44430000 0 { chained [(3, 0x48)] with mode := .ecb }).map (fun t => (t.x[4], t.chain)) =
      some (0xE0, 0xA5) := by decide +kernel

theorem test_cdec_source_is_destination :
    (after 0x45440000 0 (chained [(4, 0xE4)])).map (fun t => (t.x[4], t.chain)) = some (0x48, 0xE4) := by decide +kernel

theorem test_cenc_first_check_wins : cause 0x44430000 { regs [(3, 256)] with mode := .cbc } = some 0x62 := by decide

theorem test_no_exponent :
    cause 0x23412000 { regs [(1, 2), (2, 4)] with cfg := { defaultConfig with eDefault := 3 } } = some 0x52 := by
  decide +kernel

/-! ## Witnesses: each meets all hypotheses of the obligation it is named after -/

theorem witness_DecodeOfEncodeIsTheCommand :
    (Instr.rsagen 0 15 15).wellFormed = true ∧ (Instr.rsagen 12 0 0).wellFormed = true := by decide

theorem witness_EncodeOfDecodeIsTheWord :
    decode 0x11412301 = .command (.powmod 4 1 2 3 true) ∧ decode 0x23C12000 = .command (.rsagen 12 1 2) := by decide

theorem witness_ReservedEncodingsFaultOrAreDropped :
    (∀ row ∈ opcodeMap, matchesRow 0x0300000B row = false) ∧ (∀ row ∈ opcodeMap, matchesRow 0x23512000 row = false) ∧
    (withMove 0x0300000B 0 State.reset).fault = false ∧ (withMove 0x23512000 0 faulty).fault = true := by
  unfold opcodeMap
  simp only [List.cons_append, List.nil_append, List.forall_mem_cons]
  refine ⟨?_, ?_, rfl, rfl⟩ <;> simp [matchesRow, imm8Field]

theorem witness_StepExecutesTheDecodedCommand :
    (withMove 0x44430000 0 State.reset).fault = false ∧ decode 0x44430000 = .command (.cenc 4 3) ∧
    (withMove 0x04000000 0 faulty).fault = true ∧ decode 0x04000000 = .command .errack := by decide

theorem witness_IdleCoreHoldsItsState : State.reset.inbox = [] := rfl

theorem witness_ResetGivesTheResetTable : ({ faulty with inbox := [.reset, .reset] } : State).inbox = .reset :: [.reset] := rfl

theorem witness_StepKeepsInvariant :
    faulty.Inv ∧ (chained [(3, 255)]).Inv ∧ (pooled [(1, 4294967295)]).Inv ∧ step faulty = .next faulty :=
  ⟨inv_of_check (by decide), inv_of_check (by decide), inv_of_check (by decide), rfl⟩

theorem witness_FaultFilterDropsAllButFour :
    (withMove 0x020F0000 0 faulty).fault = true ∧ decode 0x020F0000 = .command (.rd 15) ∧
    (withMove 0x43000000 0 faulty).fault = true ∧ decode 0x43000000 = .command .mstart ∧
    (withMove 0x40000002 0 State.reset).fault = false ∧ decode 0x40000002 = .reserved .fixedBitsNonzero := by decide

theorem witness_OnlyErrackOrResetEndsAFault :
    (∃ t, step (withMove 0x01100000 7 faulty) = .next t ∧ t.fault = true) ∧
    (∃ t, step (withMove 0x04000000 7 faulty) = .next t ∧ t.fault = false) ∧
    (∃ t, step { faulty with inbox := [.reset] } = .next t ∧ t.fault = false) :=
  ⟨⟨_, rfl, rfl⟩, ⟨_, rfl, rfl⟩, ⟨_, rfl, rfl⟩⟩

theorem witness_FaultsArePrecise :
    (∃ t, exec (.mulmod 3 1 2 4) (regs [(1, 5)]) = .next t ∧ t.answer = some ⟨.err, 0⟩) ∧
    (∃ t, exec (.findgen 2 1) (regs [(1, 1), (2, 77)]) = .next t ∧ t.answer = some ⟨.err, 0⟩) :=
  ⟨⟨_, rfl, rfl⟩, ⟨_, rfl, rfl⟩⟩

theorem witness_CommandsRaiseOnlyTheirCauses :
    (∃ t, exec (.keyset 1) (regs [(1, 1023)]) = .next t ∧ t.answer = some ⟨.ok, 0⟩) ∧
    (∃ t, exec (.keyset 1) (regs [(1, 1024)]) = .next t ∧ t.answer = some ⟨.err, 0⟩ ∧ t.ecause = 0x14) :=
  ⟨⟨_, rfl, rfl⟩, ⟨_, rfl, rfl, rfl⟩⟩

theorem witness_EveryTransactionIsAnswered :
    (∃ t, step (withMove 0xFFFFFFFF 0 State.reset) = .next t ∧ t.answer = some ⟨.err, 0⟩) ∧
    (∃ t, step (withMove 0xFFFFFFFF 0 faulty) = .next t ∧ t.answer = some ⟨.rej, 0⟩) ∧
    (∃ t, step (withMove 0x02010000 0 faulty) = .next t ∧ t.answer = some ⟨.ok, 5⟩) :=
  ⟨⟨_, rfl, rfl⟩, ⟨_, rfl, rfl⟩, ⟨_, rfl, rfl⟩⟩

theorem witness_NopLeavesTheStateEqual : (withMove 0 7 faulty).inbox = [.transaction 0 7] := rfl

theorem witness_WrWritesTheDataOperand :
    (withMove (commandWord 0x01 15 0 0 0 0) 7 faulty).inbox = [.transaction (commandWord 0x01 15 0 0 0 0) 7] ∧
    (withMove (commandWord 0x01 15 0 0 0 0) 7 faulty).fault = true := ⟨rfl, rfl⟩

theorem witness_RdAnswersTheRegister :
    (withMove (commandWord 0x02 0 15 0 0 0) 7 faulty).inbox = [.transaction (commandWord 0x02 0 15 0 0 0) 7] := rfl

theorem witness_CsrrAnswersTheControlRegister :
    decode 0x03000000 = .command (.csrr .status) ∧ decode 0x0300000A = .command (.csrr .width) ∧
    decode 0x0300000B = .reserved .csrIndex ∧ decode 0x030000FF = .reserved .csrIndex := by decide

theorem witness_MulmodIsTheExactProductModulo :
    (regs [(1, 4294967295), (2, 4294967295), (4, 1)]).Inv ∧ (regs [(4, 1)]).x[(4 : Reg)] ≠ 0 ∧
    (regs [(4, 0)]).Inv ∧ (regs [(4, 0)]).x[(4 : Reg)] = 0 :=
  ⟨inv_of_check (by decide), by decide, inv_of_check (by decide), by decide⟩

theorem witness_MulmodObeysTheLaws :
    Fits 32 4294967295 ∧ Fits 32 0 ∧ (4294967295 : Nat) ≠ 0 ∧ mulmod 32 4294967295 4294967295 4294967294 = 1 := by decide

theorem witness_PowmodIsTheExactPowerModulo :
    (regs [(2, 4294967295), (3, 1)]).Inv ∧ (regs [(3, 1)]).x[(3 : Reg)] ≠ 0 ∧
    (regs [(3, 0)]).Inv ∧ (regs [(3, 0)]).x[(3 : Reg)] = 0 :=
  ⟨inv_of_check (by decide), by decide, inv_of_check (by decide), by decide⟩

theorem witness_DiffieHellmanIsSymmetric :
    Fits 32 5 ∧ Fits 32 6 ∧ Fits 32 15 ∧ Fits 32 23 ∧ (23 : Nat) ≠ 0 := by decide

theorem witness_ModinvIsTheInverseOrFaults :
    ((4 : Nat) < 11 ∧ 3 * 4 % 11 = 1 % 11) ∧ ((0 : Nat) < 1 ∧ 5 * 0 % 1 = 1 % 1) ∧
    (Nat.gcd (0 % 1) 1 = 1) ∧ (Nat.gcd (7 % 7) 7 ≠ 1) ∧
    (regs [(1, 3), (2, 11)]).x[(1 : Reg)] = 3 ∧ (regs [(1, 3), (2, 11)]).x[(2 : Reg)] = 11 ∧
    (regs [(1, 5), (2, 1)]).x[(2 : Reg)] = 1 ∧ (regs [(1, 5), (2, 0)]).x[(2 : Reg)] = 0 := by decide

/-- 3 and its generator 2; 2 has no candidate at all. -/
theorem witness_FindgenAnswersTheFirstGenerator :
    (regs [(1, 3)]).Inv ∧ FirstGenerator 3 2 ∧ (regs [(1, 2)]).Inv ∧ (¬∃ g, FirstGenerator 2 g) ∧
    (regs [(1, 0)]).x[(1 : Reg)] = 0 := by
  refine ⟨inv_of_check (by decide), ⟨by decide, by decide, ⟨fun k h1 h2 => ?_, fun j k h1 h2 h3 => ?_⟩, by omega⟩,
    inv_of_check (by decide), fun ⟨g, h1, h2, _⟩ => by omega, by decide⟩
  · interval_cases k <;> decide
  · obtain rfl : j = 1 := by omega
    obtain rfl : k = 2 := by omega
    decide

theorem witness_FindgenSucceedsExactlyOnOddPrimes :
    Fits 32 3 ∧ findgen 32 3 = some 2 ∧ Fits 32 4294967295 ∧ findgen 32 2 = none ∧ findgen 32 4 = none := by decide

/-- The clauses of RSAGEN: equal, below 2, too large, no exponent (with E_DEFAULT 3), and a key pair. -/
theorem witness_RsagenDerivesTheKeyPair :
    (regs [(1, 61), (2, 61)]).Inv ∧ (regs [(1, 1), (2, 5)]).Inv ∧ (regs [(1, 65537), (2, 65539)]).Inv ∧
    ({ regs [(1, 2), (2, 4)] with cfg := { defaultConfig with eDefault := 3 } } : State).Inv ∧
    (2 ^ 32 ≤ 65537 * 65539) ∧ (2 * 4 < 2 ^ 32) ∧ (¬∃ e, ChosenExponent 3 ((2 - 1) * (4 - 1)) e) ∧
    (regs [(1, 61), (2, 53)]).Inv ∧ ChosenExponent 65537 ((61 - 1) * (53 - 1)) 65537 := by
  refine ⟨inv_of_check (by decide), inv_of_check (by decide), inv_of_check (by decide), inv_of_check (by decide),
    by decide, by decide, ?_, inv_of_check (by decide), .inl ⟨by decide, rfl⟩⟩
  rintro ⟨e, ⟨h, _⟩ | ⟨_, ⟨_, h1, h2, _⟩, _⟩⟩
  · exact absurd h (by decide)
  · omega

theorem witness_RsaRoundTrip :
    defaultConfig.wellFormed = true ∧ Fits 32 61 ∧ Fits 32 53 ∧ Nat.Prime 61 ∧ Nat.Prime 53 ∧
    rsaDerive defaultConfig 61 53 = .ok ⟨3233, 3120, 65537, 2753⟩ ∧ 3232 < 3233 :=
  ⟨by decide, by decide, by decide, by norm_num, by norm_num, by rfl, by decide⟩

theorem witness_PoolpushAppendsOrFaults :
    ({ regs [] with poolLen := 255 } : State).poolLen ≠ defaultConfig.poolCap ∧
    ({ regs [] with poolLen := 256 } : State).poolLen = defaultConfig.poolCap := by decide

theorem witness_PoolrdReadsOrFaults :
    (pooled [(1, 2)]).x[(1 : Reg)] < (pooled [(1, 2)]).poolLen ∧
    (pooled [(1, 3)]).poolLen ≤ (pooled [(1, 3)]).x[(1 : Reg)] := by decide

theorem witness_SamplePicksByTheDraw :
    (regs []).poolLen = 0 ∧ (pooled []).poolLen ≠ 0 ∧
    ({ pooled [] with draws := [4294967295] } : State).draws = 4294967295 :: [] := by decide

theorem witness_PushedWordIsReadBack :
    (pooled [(1, 97), (2, 3)]).poolLen ≠ (pooled [(1, 97), (2, 3)]).cfg.poolCap ∧
    ∃ t, exec (.poolpush 1) (pooled [(1, 97), (2, 3)]) = .next t ∧ t.x[(2 : Reg)] = 3 :=
  ⟨by decide, _, rfl, by decide⟩

/-- KEY 0x282, whose trace 95 section 2.5 gives: P8 begins with 6, position 1 of the right half of the rotated image
1000001100, and K1 = 10100100; block 0x72, whose IP image is 10101001 and whose round 1 mixes u = 01100111. -/
theorem witness_CipherPrimitivesFollowTheirRules :
    teachingTables.wellFormed = true ∧ rotatedFrom teachingTables.ls1 teachingTables.p8[0] = 6 + 1 ∧
    position (subkeys teachingTables 0x282).1 1 = true ∧ position (0x282#10) teachingTables.p10[6] = true ∧
    rotatedFrom (1 + 2) 5 = 2 + 1 ∧ rotatedFrom (1 + 2) 10 = 7 + 1 ∧
    (1 : Nat) = 2 * (position (0b0111#4) 1).toNat + (position (0b0111#4) 4).toNat ∧
    (3 : Nat) = 2 * (position (0b0111#4) 2).toNat + (position (0b0111#4) 3).toNat ∧
    (∀ j : Fin 8, position (0b01100111#8) (j + 1) =
      (position (0b1001#4) teachingTables.ep[j] ^^ position (0xA4#8) (j + 1))) ∧
    (∀ j : Fin 8, position (0b10101001#8) (j + 1) = position (0x72#8) teachingTables.ip[j]) := by decide

theorem witness_KeysetLoadsAKeyOrFaults :
    (regs [(1, 1023)]).x[(1 : Reg)] < 1024 ∧ 1024 ≤ (regs [(1, 1024)]).x[(1 : Reg)] := by decide

theorem witness_FencEncryptsOneBlock :
    (keyed [(1, 255)]).keyv = true ∧ (keyed [(1, 255)]).x[(1 : Reg)] = (255#8).toNat ∧ (regs []).keyv = false ∧
    256 ≤ (keyed [(1, 256)]).x[(1 : Reg)] := by decide

theorem witness_FdecDecryptsOneBlock :
    (keyed [(1, 0)]).keyv = true ∧ (keyed [(1, 0)]).x[(1 : Reg)] = (0#8).toNat ∧ (regs []).keyv = false ∧
    256 ≤ (keyed [(1, 256)]).x[(1 : Reg)] := by decide

theorem witness_CipherRoundTrip : teachingTables.wellFormed = true := by decide

theorem witness_SetmodeWritesTheMode :
    decode 0x40000002 = .reserved .fixedBitsNonzero ∧ decode 0x400000FF = .reserved .fixedBitsNonzero := by decide

theorem witness_IvsetLoadsAnIvOrFaults :
    (regs [(1, 255)]).x[(1 : Reg)] = (255#8).toNat ∧ 256 ≤ (regs [(1, 256)]).x[(1 : Reg)] := by decide

theorem witness_IvgenLoadsADraw : ({ State.reset with draws := [256] } : State).draws = 256 :: [] := rfl

theorem witness_MstartRestartsTheChain :
    State.reset.mode = .ecb ∧ (chained []).mode = .cbc ∧ (chained []).ivv = true ∧
    ({ State.reset with mode := .cbc } : State).ivv = false := by decide

theorem witness_CencEncryptsInTheMode :
    (keyed [(3, 255)]).keyv = true ∧ (keyed [(3, 255)]).mode = .ecb ∧ (keyed [(3, 255)]).x[(3 : Reg)] = (255#8).toNat ∧
    (chained [(3, 255)]).mode = .cbc ∧ (chained [(3, 255)]).ivv = true ∧ (regs []).keyv = false ∧
    ({ keyed [(3, 256)] with mode := .cbc } : State).ivv = false ∧ 256 ≤ (chained [(3, 256)]).x[(3 : Reg)] := by decide

theorem witness_CdecDecryptsInTheMode :
    (keyed [(3, 0)]).keyv = true ∧ (keyed [(3, 0)]).mode = .ecb ∧ (keyed [(3, 0)]).x[(3 : Reg)] = (0#8).toNat ∧
    (chained [(3, 0)]).mode = .cbc ∧ (chained [(3, 0)]).ivv = true ∧ (regs []).keyv = false ∧
    ({ keyed [(3, 256)] with mode := .cbc } : State).ivv = false ∧ 256 ≤ (chained [(3, 256)]).x[(3 : Reg)] := by decide

theorem witness_EcbIsDeterministic :
    (keyed [(1, 0x41), (2, 9)]).mode = .ecb ∧ (keyed [(1, 0x41), (2, 9)]).keyv = true ∧
    (keyed [(1, 0x41), (2, 9)]).x[(1 : Reg)] < 256 ∧
    (keyed [(1, 0x41), (2, 9)]).x[(1 : Reg)] = (keyed [(5, 0x41)]).x[(5 : Reg)] ∧
    (∃ s', exec (.cenc 3 1) (keyed [(1, 0x41), (2, 9)]) = .next s') ∧
    ∃ t', exec (.cenc 4 5) (keyed [(5, 0x41)]) = .next t' :=
  ⟨by decide, by decide, by decide, by decide, ⟨_, rfl⟩, ⟨_, rfl⟩⟩

theorem witness_CbcMessageRoundTrip :
    (chained []).Inv ∧ ({ chained [(2, 3)] with chain := 0 } : State).Inv ∧ (chained []).fault = false ∧
    (chained []).mode = .cbc ∧ (chained []).keyv = true ∧ (chained []).ivv = true ∧
    (∀ b ∈ ([0, 255] : List Word), b < 256) ∧
    (message (.cenc 4 3) 4 3 [0x48] (chained [])).map (·.1) = some [0xE4] :=
  ⟨inv_of_check (by decide), inv_of_check (by decide), rfl, rfl, rfl, rfl, by decide, by decide +kernel⟩

/-- One next state for each of the frame statements, which ask for nothing else. -/
theorem witness_OnlyDestinationRegistersChange :
    (∃ t, exec (.rsagen 12 1 2) (regs [(1, 11), (2, 13)]) = .next t) ∧ (11 : Reg) ∉ regsWritten (.rsagen 12 1 2) ∧
    (15 : Reg) ∈ regsWritten (.rsagen 12 1 2) := ⟨⟨_, rfl⟩, by decide, by decide⟩

theorem witness_FlagsChangeOnlyByTheirWriters :
    (∃ t, exec (.sample 1) (regs []) = .next t ∧ t.empty = true) ∧
    (∃ t, exec .errack faulty = .next t ∧ t.fault = false) ∧
    (∃ t, exec (.keydrv 1) (regs [(1, 2)]) = .next t ∧ t.keyv = true) ∧
    (∃ t, exec .ivgen (regs []) = .next t ∧ t.ivv = true) ∧
    ∃ t, exec (.setmode .cbc) (regs []) = .next t ∧ t.mode = .cbc :=
  ⟨⟨_, rfl, rfl⟩, ⟨_, rfl, rfl⟩, ⟨_, rfl, rfl⟩, ⟨_, rfl, rfl⟩, ⟨_, rfl, rfl⟩⟩

theorem witness_ControlRegistersChangeOnlyByTheirWriters :
    (∃ t, exec (.poolrd 2 1) (pooled [(1, 3)]) = .next t ∧ t.ecause = 0x65) ∧
    (∃ t, exec .mstart { chained [] with chain := 0 } = .next t ∧ t.chain = 0xA5) ∧
    ∃ t, exec .poolclr (pooled []) = .next t ∧ t.poolLen = 0 := ⟨⟨_, rfl, rfl⟩, ⟨_, rfl, rfl⟩, ⟨_, rfl, rfl⟩⟩

theorem witness_PoolWordsChangeOnlyByPush :
    (∃ t, exec .poolclr (pooled []) = .next t ∧ poolRead 2 t = 53) ∧
    ∃ t, exec (.poolpush 1) (pooled [(1, 97)]) = .next t ∧ poolRead 2 t = 53 := ⟨⟨_, rfl, rfl⟩, ⟨_, rfl, rfl⟩⟩

theorem witness_DrawsAreTakenByTwoCommandsOnly :
    (∃ t, exec (.sample 1) (pooled []) = .next t ∧ t.drawCount = 1) ∧
    ∃ t, exec (.sample 1) (regs []) = .next t ∧ t.drawCount = 0 := ⟨⟨_, rfl, rfl⟩, ⟨_, rfl, rfl⟩⟩

theorem witness_ConfigurationNeverChanges : ∃ t, step (withMove 0x28000000 0 State.reset) = .next t := ⟨_, rfl⟩

theorem witness_NothingRunsWhileTheFaultStands :
    faulty.fault = true ∧ (0x01100000 : CmdWord) ≠ 0x04000000 ∧
    (runMoves [.transaction 0x01100000 7] faulty).2.x[(1 : Reg)] = 5 := by decide

theorem witness_ACleanRunWithoutErrackAnswersOk :
    State.reset.fault = false ∧ (0x01100000 : CmdWord) ≠ 0x04000000 ∧
    CleanRun [.transaction 0x01100000 7] State.reset :=
  ⟨rfl, by decide, rfl, fun a ha => by
    have h : (runMoves [.transaction 0x01100000 7] State.reset).1 = [some ⟨.ok, 0⟩] := by decide
    rw [h] at ha
    cases List.mem_singleton.1 ha
    decide⟩

/-- Two states that differ in the unwritten `x[5]`, and a command that reads the written `x[1]`. -/
theorem witness_UnwrittenRegistersCannotMatter :
    AgreeOnWritten (keyed [(1, 9)]) { keyed [(1, 9)] with x := (keyed [(1, 9)]).x.set 5 77 } ∧
    ReadsWritten (.fenc 2 1) (keyed [(1, 9)]) := ⟨⟨rfl, by decide⟩, by unfold ReadsWritten; decide⟩

end Sys2Proof.Tests
end

section
/-!
SUPPORT. The widths of what the arithmetic units compute (spec 10 R11, R16): each result of an operand pair of width W
has width W, so that no register write need truncate. They are what the step invariant asks of the commands' results.
-/

namespace Sys2Proof

/-- The constraint column of 00 R6, item by item. -/
theorem Config.wellFormed_iff (c : Config) :
    c.wellFormed = true ↔ 32 ≤ c.w ∧ 1 ≤ c.poolCap ∧ c.poolCap < 2 ^ c.w ∧ c.eDefault % 2 = 1 ∧ 3 ≤ c.eDefault ∧
      c.eDefault < 2 ^ c.w ∧ c.tables.wellFormed = true := by
  simp [Config.wellFormed, and_assoc]

end Sys2Proof

namespace Sys2Proof.Machine

/-- A narrow field, zero-extended, has the wider width. -/
theorem zext_fits {n w : Nat} (h : n ≤ w) (v : BitVec n) : Fits w (zext v) :=
  v.isLt.trans_le (Nat.pow_le_pow_right (by norm_num) h)

theorem mulmod_fits (w a b m : Nat) : Fits w (mulmod w a b m) := Nat.mod_lt _ (Nat.two_pow_pos w)

theorem powmodBits_fits {w b exp m acc : Nat} (i : Nat) (h : Fits w acc) : Fits w (powmodBits w b exp m i acc) := by
  induction i generalizing acc with
  | zero => exact h
  | succ i ih => exact ih (by split <;> exact mulmod_fits ..)

theorem powmod_fits {w m : Nat} (base exp : Nat) (h0 : m ≠ 0) (hm : Fits w m) : Fits w (powmod w base exp m) :=
  powmodBits_fits w ((Nat.mod_lt 1 (Nat.pos_of_ne_zero h0)).trans hm)

theorem euclidLoop_fits {w a b : Nat} (k : Nat) (ha : Fits w a) (hb : Fits w b) : Fits w (euclidLoop k a b) := by
  induction k generalizing a b with
  | zero => exact ha
  | succ k ih =>
    unfold euclidLoop
    split
    · exact ha
    · exact ih hb ((Nat.mod_le a b).trans_lt ha)

/-- An inverse lies in `[0, m)` (43 R76). -/
theorem modinv_lt {a m d : Nat} (h0 : m ≠ 0) (h : modinv a m = some d) : d < m := by
  simp only [modinv, Option.ite_none_right_eq_some, Option.some.injEq] at h
  have hlt := Int.emod_lt_of_pos (modinvLoop (a % m + 1) m (a % m) 0 1).2 (b := m) (by omega)
  obtain ⟨_, rfl⟩ := h
  omega

theorem findgenFrom_lt {w p g r : Nat} (k : Nat) (h : findgenFrom w p k g = some r) : r < g + k := by
  induction k generalizing g with
  | zero => simp [findgenFrom] at h
  | succ k ih =>
    unfold findgenFrom at h
    split at h
    · cases h; omega
    · have := ih h; omega

/-- The candidates of `findgen(p)` end at `p - 1` (43 R78). -/
theorem findgen_lt {w p g : Nat} (h : findgen w p = some g) : g < p := by
  have hlt : g < 2 + (p - 2) := findgenFrom_lt _ h
  have hp : p - 2 ≠ 0 := fun h0 => by simp [findgen, h0, findgenFrom] at h
  omega

/-- The candidates of the exponent search lie below the totient (43 R80). -/
theorem oddCoprimeFrom_lt {totient c e : Nat} (k : Nat) (h : oddCoprimeFrom totient k c = some e) : e < totient := by
  induction k generalizing c with
  | zero => simp [oddCoprimeFrom] at h
  | succ k ih =>
    simp only [oddCoprimeFrom, Option.ite_none_right_eq_some] at h
    obtain ⟨hc, h⟩ := h
    split at h
    · cases h; exact hc
    · exact ih h

theorem chooseExponent_fits {w eDefault totient e : Nat} (hd : Fits w eDefault) (ht : Fits w totient)
    (h : chooseExponent eDefault totient = some e) : Fits w e := by
  unfold chooseExponent at h
  split at h
  · cases h; exact hd
  · exact (oddCoprimeFrom_lt _ h).trans ht

/-- What `rsa_derive` answers: one of its four causes, or the key of the chosen exponent, all checks having passed
(43 R80). -/
theorem rsaDerive_cases (c : Config) (p q : Nat) :
    (∃ e ∈ [Cause.equalPrimes, .zeroModulus, .rangeOverflow, .noExponent], rsaDerive c p q = .error e) ∨
      ∃ e, p ≠ q ∧ 2 ≤ p ∧ 2 ≤ q ∧ (wideProduct c.w p q).toNat < 2 ^ c.w ∧
        chooseExponent c.eDefault ((p - 1) * (q - 1)) = some e ∧
        rsaDerive c p q = .ok ⟨(wideProduct c.w p q).toNat % 2 ^ c.w, (p - 1) * (q - 1), e,
          (modinv e ((p - 1) * (q - 1))).getD 0⟩ := by
  unfold rsaDerive
  split
  · exact .inl ⟨.equalPrimes, by simp, rfl⟩
  split
  · exact .inl ⟨.zeroModulus, by simp, rfl⟩
  split
  · exact .inl ⟨.rangeOverflow, by simp, rfl⟩
  cases he : chooseExponent c.eDefault ((p - 1) * (q - 1)) with
  | none => exact .inl ⟨.noExponent, by simp, by simp [he]⟩
  | some e => exact .inr ⟨e, by assumption, by omega, by omega, by omega, rfl, by simp [he]⟩

/-- The four values of a key pair have width `w`. -/
def RsaKey.fits (w : Nat) (k : RsaKey) : Prop := Fits w k.n ∧ Fits w k.totient ∧ Fits w k.e ∧ Fits w k.d

/-- A key pair derived from W-bit primes has width W: the product passed the range check, the totient is below it, and
`d` is a remainder modulo the totient. -/
theorem rsaDerive_fits {c : Config} {p q : Nat} {k : RsaKey} (hc : c.wellFormed = true) (hp : Fits c.w p)
    (hq : Fits c.w q) (h : rsaDerive c p q = .ok k) : k.fits c.w := by
  obtain ⟨_, _, _, _, _, heDefault, _⟩ := c.wellFormed_iff.1 hc
  obtain ⟨_, _, herr⟩ | ⟨e, _, hp2, hq2, hn, he, hok⟩ := rsaDerive_cases c p q
  · cases herr.symm.trans h
  cases hok.symm.trans h
  have htotient : Fits c.w ((p - 1) * (q - 1)) :=
    (Nat.mul_le_mul (Nat.sub_le p 1) (Nat.sub_le q 1)).trans_lt (wideProduct_toNat hp hq ▸ hn)
  have hpos : (p - 1) * (q - 1) ≠ 0 := Nat.mul_ne_zero (by omega) (by omega)
  refine ⟨Nat.mod_lt _ (Nat.two_pow_pos _), htotient, chooseExponent_fits heDefault htotient he, ?_⟩
  cases hd : modinv e ((p - 1) * (q - 1)) with
  | none => exact Nat.two_pow_pos _
  | some d => exact (modinv_lt hpos hd).trans htotient

end Sys2Proof.Machine
end

section
/-!
SUPPORT. What a command can do (spec 40 to 45): one case per kind of update, with the commands it belongs to and the
guard under which they make it. Every frame over all commands is read off these cases.
-/

namespace Sys2Proof.Machine

/-- `Effect s i t`: from `s`, the command `i` can lead to `t`. -/
inductive Effect (s : State) : Instr → State → Prop
  /-- nothing but the answer -/
  | hold {i : Instr} (hi : i = .nop ∨ i = .mstart) : Effect s i (respond 0 s)
  /-- a register is read to the port -/
  | showReg (ra : Reg) : Effect s (.rd ra) (respond (readReg ra s) s)
  /-- a control register is read to the port -/
  | showCsr (c : Csr) : Effect s (.csrr c) (respond (readCsr c s) s)
  /-- the fault is acknowledged -/
  | acknowledged : Effect s .errack (respond 0 (acknowledge s))
  /-- a cause of the command's list is raised (60 R121, R122) -/
  | faulted {i : Instr} {c : Cause} (hg : c ≠ .noGenerator) (hc : c.code ∈ causesOf i.opcode) : Effect s i (raise c s)
  /-- FINDGEN finds none: the sentinel is written and the cause is raised (43 R79) -/
  | sentinel (rd ra : Reg) : Effect s (.findgen rd ra) (raise .noGenerator (writeReg rd 0 s))
  /-- one result of width W -/
  | result {i : Instr} {rd : Reg} {v : Word} (hrd : rd ∈ regsWritten i) (hv : s.Inv → Fits s.cfg.w v) :
      Effect s i (respond 0 (writeReg rd v s))
  /-- the four results of RSAGEN (43 R81) -/
  | keyPair (rd ra rb : Reg) {k : RsaKey} (hk : s.Inv → k.fits s.cfg.w) :
      Effect s (.rsagen rd ra rb) (respond 0 (writeReg (regAfter rd 3) k.d (writeReg (regAfter rd 2) k.e
        (writeReg (regAfter rd 1) k.totient (writeReg rd k.n s)))))
  /-- a result in CBC mode, with the next chaining value (45 R110, R111) -/
  | chained {i : Instr} {rd ra : Reg} {v : Word} {c : BitVec 8} (hi : i = .cenc rd ra ∨ i = .cdec rd ra)
      (hivv : s.ivv = true) (hv : s.Inv → Fits s.cfg.w v) : Effect s i (respond 0 (writeReg rd v (setChain c s)))
  /-- the chain restarts at the loaded IV (45 R109) -/
  | restarted (hivv : s.ivv = true) : Effect s .mstart (respond 0 (setChain s.iv s))
  /-- the pool is emptied -/
  | cleared : Effect s .poolclr (respond 0 (setPoolLen 0 s))
  /-- a word is appended to a pool that is not full -/
  | pushed (ra : Reg) (hroom : s.poolLen ≠ s.cfg.poolCap) :
      Effect s (.poolpush ra) (respond 0 (setPoolLen (s.poolLen + 1) (poolWrite s.poolLen (readReg ra s) s)))
  /-- SAMPLE of an empty pool: the sentinel, no draw -/
  | sampledNone (rd : Reg) (hempty : s.poolLen = 0) :
      Effect s (.sample rd) (respond 0 (setEmpty true (writeReg rd 0 s)))
  /-- SAMPLE by a draw -/
  | sampled (rd : Reg) (i : Nat) (hsome : s.poolLen ≠ 0) :
      Effect s (.sample rd) (respond 0 (setEmpty false (writeReg rd (poolRead i s) (takeDraw s))))
  /-- a key is loaded -/
  | keyed {i : Instr} {ra : Reg} (k : BitVec 10) (hi : i = .keyset ra ∨ i = .keydrv ra) :
      Effect s i (respond 0 (loadKey k s))
  /-- the mode is written -/
  | moded (m : CipherMode) : Effect s (.setmode m) (respond 0 (setMode m s))
  /-- an IV is loaded from a register -/
  | ivLoaded (ra : Reg) (v : BitVec 8) : Effect s (.ivset ra) (respond 0 (setIv v s))
  /-- an IV is drawn -/
  | ivDrawn (v : BitVec 8) : Effect s .ivgen (respond 0 (setIv v (takeDraw s)))

/-! ### The values the commands write have the width W -/

variable {s : State}

theorem State.Inv.fits_of_le {n : Nat} (h : s.Inv) (hn : n ≤ 32) (v : BitVec n) : Fits s.cfg.w (zext v) := by
  obtain ⟨hw, _⟩ := s.cfg.wellFormed_iff.1 h.cfgWellFormed
  exact zext_fits (hn.trans hw) v

theorem State.Inv.poolCap_fits (h : s.Inv) : Fits s.cfg.w s.cfg.poolCap := by
  obtain ⟨_, _, hcap, _⟩ := s.cfg.wellFormed_iff.1 h.cfgWellFormed
  exact hcap

theorem State.Inv.poolRead_fits (h : s.Inv) (i : Nat) : Fits s.cfg.w (poolRead i s) := by
  obtain hblank | hcell := poolRead_cases i s
  · exact hblank ▸ Nat.two_pow_pos _
  · exact (h.poolFits _ hcell).2

theorem State.Inv.readCsr_fits (h : s.Inv) (c : Csr) : Fits s.cfg.w (readCsr c s) := by
  cases c with
  | poollen => exact h.poolLenBound.trans_lt h.poolCap_fits
  | poolcap => exact h.poolCap_fits
  | width => exact Nat.lt_two_pow_self
  | _ => exact h.fits_of_le (by norm_num) _

/-! ### Each command's cases -/

/-- A command that traps with one of its causes has made the case of a raised error. -/
theorem trap_effect {i : Instr} {c : Cause} (o : Opcode) (ho : i.opcode = o := by rfl)
    (hc : c ≠ .noGenerator ∧ c.code ∈ causesOf o := by decide) : ∃ t, trap c s = .next t ∧ Effect s i t :=
  ⟨_, rfl, .faulted hc.1 (ho ▸ hc.2)⟩

/-- The causes of a raw block command are those the table gives FENC and FDEC (44 R101, R102). -/
theorem blockFault_causes {b : Word} {c : Cause} (h : blockFault s b = some c) :
    c ≠ .noGenerator ∧ c.code ∈ causesOf .fenc := by
  unfold blockFault at h
  split at h
  · cases h; decide
  split at h <;> cases h
  decide

/-- The causes of a mode command are those the table gives CENC and CDEC (45 R110, R111). -/
theorem modeFault_causes {b : Word} {c : Cause} (h : modeFault s b = some c) :
    c ≠ .noGenerator ∧ c.code ∈ causesOf .cenc := by
  unfold modeFault at h
  split at h
  · cases h; decide
  split at h
  · cases h; decide
  split at h <;> cases h
  decide

/-- In CBC mode a mode command runs with a loaded IV only (45 R110, R111). -/
theorem ivv_of_modeFault_none {b : Word} (h : modeFault s b = none) (hm : s.mode = .cbc) : s.ivv = true := by
  by_contra hivv
  rw [Bool.not_eq_true] at hivv
  simp only [modeFault, hm, hivv, and_self, if_true] at h
  split at h <;> cases h

variable (s)

theorem execMulmod_effect (rd ra rb rm : Reg) :
    ∃ t, execMulmod rd ra rb rm s = .next t ∧ Effect s (.mulmod rd ra rb rm) t := by
  unfold execMulmod
  dsimp only
  split
  · exact trap_effect .mulmod
  · exact ⟨_, rfl, .result (.head _) fun _ => mulmod_fits ..⟩

theorem execPowmod_effect (rd ra rb rm : Reg) (neg : Bool) :
    ∃ t, execPowmod rd ra rb rm neg s = .next t ∧ Effect s (.powmod rd ra rb rm neg) t := by
  unfold execPowmod
  dsimp only
  split
  · exact trap_effect .powmod
  split
  · exact trap_effect .powmod
  · next hm _ => exact ⟨_, rfl, .result (.head _) fun h => powmod_fits _ _ hm (h.regsFit rm)⟩

theorem execModinv_effect (rd ra rm : Reg) :
    ∃ t, execModinv rd ra rm s = .next t ∧ Effect s (.modinv rd ra rm) t := by
  unfold execModinv
  dsimp only
  split
  · exact trap_effect .modinv
  next hm =>
  split
  · exact trap_effect .modinv
  · next hd => exact ⟨_, rfl, .result (.head _) fun h => (modinv_lt hm hd).trans (h.regsFit rm)⟩

theorem execFindgen_effect (rd ra : Reg) : ∃ t, execFindgen rd ra s = .next t ∧ Effect s (.findgen rd ra) t := by
  unfold execFindgen
  dsimp only
  split
  · exact trap_effect .findgen
  split
  · exact ⟨_, rfl, .sentinel rd ra⟩
  · next hg => exact ⟨_, rfl, .result (.head _) fun h => (findgen_lt hg).trans (h.regsFit ra)⟩

theorem execRsagen_effect (rd ra rb : Reg) : ∃ t, execRsagen rd ra rb s = .next t ∧ Effect s (.rsagen rd ra rb) t := by
  unfold execRsagen
  obtain ⟨c, hc, herr⟩ | ⟨e, _, _, _, _, _, hok⟩ := rsaDerive_cases s.cfg (readReg ra s) (readReg rb s)
  · rw [herr]
    exact trap_effect .rsagen rfl ((by decide : ∀ c ∈ [Cause.equalPrimes, .zeroModulus, .rangeOverflow, .noExponent],
      c ≠ .noGenerator ∧ c.code ∈ causesOf .rsagen) c hc)
  · rw [hok]
    exact ⟨_, rfl, .keyPair rd ra rb fun h => rsaDerive_fits h.cfgWellFormed (h.regsFit ra) (h.regsFit rb) hok⟩

theorem execPoolpush_effect (ra : Reg) : ∃ t, execPoolpush ra s = .next t ∧ Effect s (.poolpush ra) t := by
  unfold execPoolpush
  split
  · exact trap_effect .poolpush
  · next hroom => exact ⟨_, rfl, .pushed ra hroom⟩

theorem execPoolrd_effect (rd ra : Reg) : ∃ t, execPoolrd rd ra s = .next t ∧ Effect s (.poolrd rd ra) t := by
  unfold execPoolrd
  dsimp only
  split
  · exact trap_effect .poolrd
  · exact ⟨_, rfl, .result (.head _) fun h => h.poolRead_fits _⟩

theorem execSample_effect (rd : Reg) : ∃ t, execSample rd s = .next t ∧ Effect s (.sample rd) t := by
  unfold execSample
  split
  · next hempty => exact ⟨_, rfl, .sampledNone rd hempty⟩
  · next hsome => exact ⟨_, rfl, .sampled rd _ hsome⟩

theorem execKeyset_effect (ra : Reg) : ∃ t, execKeyset ra s = .next t ∧ Effect s (.keyset ra) t := by
  unfold execKeyset
  dsimp only
  split
  · exact trap_effect .keyset
  · exact ⟨_, rfl, .keyed _ (.inl rfl)⟩

theorem execFenc_effect (rd ra : Reg) : ∃ t, execFenc rd ra s = .next t ∧ Effect s (.fenc rd ra) t := by
  unfold execFenc
  dsimp only
  split
  · next hc => exact trap_effect .fenc rfl (blockFault_causes hc)
  · exact ⟨_, rfl, .result (.head _) fun h => h.fits_of_le (by norm_num) _⟩

theorem execFdec_effect (rd ra : Reg) : ∃ t, execFdec rd ra s = .next t ∧ Effect s (.fdec rd ra) t := by
  unfold execFdec
  dsimp only
  split
  · next hc => exact trap_effect .fdec rfl (blockFault_causes hc)
  · exact ⟨_, rfl, .result (.head _) fun h => h.fits_of_le (by norm_num) _⟩

theorem execIvset_effect (ra : Reg) : ∃ t, execIvset ra s = .next t ∧ Effect s (.ivset ra) t := by
  unfold execIvset
  dsimp only
  split
  · exact trap_effect .ivset
  · exact ⟨_, rfl, .ivLoaded ra _⟩

theorem execMstart_effect : ∃ t, execMstart s = .next t ∧ Effect s .mstart t := by
  unfold execMstart
  split
  · exact ⟨_, rfl, .hold (.inr rfl)⟩
  split
  · exact trap_effect .mstart
  · next hivv => exact ⟨_, rfl, .restarted (by simpa using hivv)⟩

theorem execCenc_effect (rd ra : Reg) : ∃ t, execCenc rd ra s = .next t ∧ Effect s (.cenc rd ra) t := by
  unfold execCenc
  dsimp only
  split
  · next hc => exact trap_effect .cenc rfl (modeFault_causes hc)
  · exact ⟨_, rfl, .result (.head _) fun h => h.fits_of_le (by norm_num) _⟩
  · next hf hm =>
    exact ⟨_, rfl, .chained (.inl rfl) (ivv_of_modeFault_none hf hm) fun h => h.fits_of_le (by norm_num) _⟩

theorem execCdec_effect (rd ra : Reg) : ∃ t, execCdec rd ra s = .next t ∧ Effect s (.cdec rd ra) t := by
  unfold execCdec
  dsimp only
  split
  · next hc => exact trap_effect .cdec rfl (modeFault_causes hc)
  · exact ⟨_, rfl, .result (.head _) fun h => h.fits_of_le (by norm_num) _⟩
  · next hf hm =>
    exact ⟨_, rfl, .chained (.inr rfl) (ivv_of_modeFault_none hf hm) fun h => h.fits_of_le (by norm_num) _⟩

/-- Every command answers a next state, by one of its cases. -/
theorem exec_next_effect (i : Instr) : ∃ t, exec i s = .next t ∧ Effect s i t := by
  cases i with
  | nop => exact ⟨_, rfl, .hold (.inl rfl)⟩
  | wr rd => exact ⟨_, rfl, .result (.head _) fun h => h.wdataFits⟩
  | rd ra => exact ⟨_, rfl, .showReg ra⟩
  | csrr c => exact ⟨_, rfl, .showCsr c⟩
  | errack => exact ⟨_, rfl, .acknowledged⟩
  | mulmod rd ra rb rm => exact execMulmod_effect s rd ra rb rm
  | powmod rd ra rb rm neg => exact execPowmod_effect s rd ra rb rm neg
  | gcd rd ra rb => exact ⟨_, rfl, .result (.head _) fun h => euclidLoop_fits _ (h.regsFit ra) (h.regsFit rb)⟩
  | modinv rd ra rm => exact execModinv_effect s rd ra rm
  | findgen rd ra => exact execFindgen_effect s rd ra
  | rsagen rd ra rb => exact execRsagen_effect s rd ra rb
  | poolclr => exact ⟨_, rfl, .cleared⟩
  | poolpush ra => exact execPoolpush_effect s ra
  | poolrd rd ra => exact execPoolrd_effect s rd ra
  | sample rd => exact execSample_effect s rd
  | keyset ra => exact execKeyset_effect s ra
  | keydrv ra => exact ⟨_, rfl, .keyed _ (.inr rfl)⟩
  | fenc rd ra => exact execFenc_effect s rd ra
  | fdec rd ra => exact execFdec_effect s rd ra
  | setmode m => exact ⟨_, rfl, .moded m⟩
  | ivset ra => exact execIvset_effect s ra
  | ivgen => exact ⟨_, rfl, .ivDrawn _⟩
  | mstart => exact execMstart_effect s
  | cenc rd ra => exact execCenc_effect s rd ra
  | cdec rd ra => exact execCdec_effect s rd ra

variable {s}

theorem exec_effect {i : Instr} {t : State} (h : exec i s = .next t) : Effect s i t := by
  obtain ⟨t', hexec, he⟩ := exec_next_effect s i
  cases h.symm.trans hexec
  exact he

end Sys2Proof.Machine
end

section
/-!
SUPPORT. The frames over all commands (spec 10 R13, R18, R26, R27), read off the cases of `Effect`: each piece of the
state is as it was, or the command is one of its writers and wrote it so.
-/

namespace Sys2Proof.Machine

variable {i : Instr} {s t : State}

theorem Effect.cfg_kept (he : Effect s i t) : t.cfg = s.cfg := by cases he <;> simp

theorem Effect.faultRecord_kept_or (he : Effect s i t) :
    (t.fault = s.fault ∧ t.ecause = s.ecause ∧ t.ecmd = s.ecmd) ∨ (t.fault = true ∧ t.answer = some ⟨.err, 0⟩) ∨
      (t.fault = false ∧ i = .errack) := by
  cases he with
  | faulted | sentinel => exact .inr (.inl ⟨rfl, rfl⟩)
  | acknowledged => exact .inr (.inr ⟨rfl, rfl⟩)
  | _ => exact .inl (by simp)

theorem Effect.key_kept_or (he : Effect s i t) :
    (t.keyv = s.keyv ∧ t.key = s.key ∧ t.k1 = s.k1 ∧ t.k2 = s.k2) ∨
      (t.keyv = true ∧ ∃ ra, i = .keyset ra ∨ i = .keydrv ra) := by
  cases he with
  | keyed _ hi => exact .inr ⟨rfl, _, hi⟩
  | _ => exact .inl (by simp)

theorem Effect.iv_kept_or (he : Effect s i t) :
    (t.ivv = s.ivv ∧ t.iv = s.iv) ∨ (t.ivv = true ∧ ((∃ ra, i = .ivset ra) ∨ i = .ivgen)) := by
  cases he with
  | ivLoaded ra => exact .inr ⟨rfl, .inl ⟨ra, rfl⟩⟩
  | ivDrawn => exact .inr ⟨rfl, .inr rfl⟩
  | _ => exact .inl (by simp)

theorem Effect.chain_kept_or (he : Effect s i t) :
    t.chain = s.chain ∨ (∃ ra, i = .ivset ra) ∨ i = .ivgen ∨ i = .mstart ∨
      ∃ rd ra, i = .cenc rd ra ∨ i = .cdec rd ra := by
  cases he with
  | ivLoaded ra => exact .inr (.inl ⟨ra, rfl⟩)
  | ivDrawn => exact .inr (.inr (.inl rfl))
  | restarted => exact .inr (.inr (.inr (.inl rfl)))
  | chained hi => exact .inr (.inr (.inr (.inr ⟨_, _, hi⟩)))
  | _ => exact .inl (by simp)

theorem Effect.mode_kept_or (he : Effect s i t) : t.mode = s.mode ∨ i = .setmode t.mode := by
  cases he with
  | moded => exact .inr rfl
  | _ => exact .inl (by simp)

theorem Effect.empty_kept_or (he : Effect s i t) :
    t.empty = s.empty ∨ ∃ rd, i = .sample rd ∧ (t.empty = true ↔ s.poolLen = 0) := by
  cases he with
  | sampledNone rd hempty => exact .inr ⟨rd, rfl, by simp [hempty]⟩
  | sampled rd _ hsome => exact .inr ⟨rd, rfl, by simp [hsome]⟩
  | _ => exact .inl (by simp)

theorem Effect.poolLen_kept_or (he : Effect s i t) : t.poolLen = s.poolLen ∨ i = .poolclr ∨ ∃ ra, i = .poolpush ra := by
  cases he with
  | cleared => exact .inr (.inl rfl)
  | pushed ra => exact .inr (.inr ⟨ra, rfl⟩)
  | _ => exact .inl (by simp)

/-- The commands that take a draw, in the state in which they take it (10 R27). -/
def TakesDraw (s : State) (i : Instr) : Prop := i = .ivgen ∨ ∃ rd, i = .sample rd ∧ 0 < s.poolLen

theorem Effect.draws_kept_or (he : Effect s i t) :
    (t.drawCount = s.drawCount ∧ t.draws = s.draws) ∨ TakesDraw s i := by
  cases he with
  | ivDrawn => exact .inr (.inl rfl)
  | sampled rd _ hsome => exact .inr (.inr ⟨rd, rfl, Nat.pos_of_ne_zero hsome⟩)
  | _ => exact .inl (by simp)

theorem exec_takesDraw (hd : TakesDraw s i) (h : exec i s = .next t) :
    t.drawCount = s.drawCount + 1 ∧ t.draws = s.draws.tail := by
  obtain rfl | ⟨rd, rfl, hpos⟩ := hd
  · cases h; exact ⟨rfl, rfl⟩
  · simp only [exec, execSample, if_neg hpos.ne'] at h
    cases h; exact ⟨rfl, rfl⟩

/-- `r` holds in `t` what it held in `s`, its written bit too. -/
def RegKept (r : Reg) (s t : State) : Prop := t.x[r] = s.x[r] ∧ t.written[r] = s.written[r]

theorem RegKept.writeReg {r q : Reg} {s u : State} (hu : RegKept r s u) (hrq : r ≠ q) (v : Word) :
    RegKept r s (writeReg q v u) := by
  obtain ⟨hx, hwritten⟩ := hu
  exact ⟨(readReg_writeReg r q v u).trans ((if_neg hrq.symm).trans hx),
    (written_writeReg r q v u).trans ((if_neg hrq.symm).trans hwritten)⟩

theorem Effect.reg_kept (he : Effect s i t) {r : Reg} (hr : r ∉ regsWritten i) : RegKept r s t := by
  have hs : RegKept r s s := ⟨rfl, rfl⟩
  cases he with
  | result hrd => exact hs.writeReg (ne_of_mem_of_not_mem hrd hr).symm _
  | sentinel | sampledNone | sampled => exact hs.writeReg (List.ne_of_not_mem_cons hr) _
  | chained hi =>
    obtain rfl | rfl := hi
    · exact hs.writeReg (List.ne_of_not_mem_cons hr) _
    · exact hs.writeReg (List.ne_of_not_mem_cons hr) _
  | keyPair rd ra rb =>
    simp only [regsWritten, List.mem_cons, List.not_mem_nil, or_false, not_or] at hr
    obtain ⟨h0, h1, h2, h3⟩ := hr
    simp only [regAfter_eq]
    exact (((hs.writeReg h0 _).writeReg h1 _).writeReg h2 _).writeReg h3 _
  | _ => exact ⟨by simp, by simp⟩

/-- Settles O52: whatever case the command makes, it writes its destinations alone. -/
theorem onlyDestinationRegistersChange : Obligations.OnlyDestinationRegistersChange :=
  fun _ _ _ h _ hr => (exec_effect h).reg_kept hr

/-- Settles O53: each flag is kept or its writer wrote it. -/
theorem flagsChangeOnlyByTheirWriters : Obligations.FlagsChangeOnlyByTheirWriters := by
  intro i s t h
  have he := exec_effect h
  exact ⟨fun hne => he.faultRecord_kept_or.resolve_left fun hk => hne hk.1,
    fun hne => he.key_kept_or.resolve_left fun hk => hne hk.1,
    fun hne => he.iv_kept_or.resolve_left fun hk => hne hk.1,
    he.mode_kept_or.resolve_left,
    he.empty_kept_or.resolve_left⟩

/-- Settles O54: each control register is kept or the command is one of its writers. -/
theorem controlRegistersChangeOnlyByTheirWriters : Obligations.ControlRegistersChangeOnlyByTheirWriters := by
  intro i s t h
  have he := exec_effect h
  refine ⟨fun hne => ?_, fun hne => ?_, fun hne => ?_, he.chain_kept_or.resolve_left, he.poolLen_kept_or.resolve_left⟩
  · obtain ⟨_, hcause, hcmd⟩ | ⟨_, herr⟩ | ⟨_, hi⟩ := he.faultRecord_kept_or
    · exact absurd hne (by simp [hcause, hcmd])
    · exact .inr herr
    · exact .inl hi
  · obtain ⟨_, hkey, hk1, hk2⟩ | ⟨_, hi⟩ := he.key_kept_or
    · exact absurd hne (by simp [hkey, hk1, hk2])
    · exact hi
  · obtain ⟨_, hiv⟩ | ⟨_, hi⟩ := he.iv_kept_or
    · exact absurd hiv hne
    · exact hi

/-- Settles O56: the two commands take their draw, and every other case of a command keeps the draws. -/
theorem drawsAreTakenByTwoCommandsOnly : Obligations.DrawsAreTakenByTwoCommandsOnly :=
  fun _ _ _ h => ⟨fun hd => exec_takesDraw hd h, (exec_effect h).draws_kept_or.resolve_right⟩

/-- Settles O57, along the kinds of step. -/
theorem configurationNeverChanges : Obligations.ConfigurationNeverChanges := by
  intro s t h
  obtain ⟨_, hs⟩ | ⟨rest, _, hs⟩ | ⟨w, d, rest, _, ⟨i, _, _, hs⟩ | ⟨_, _, hs⟩ | ⟨_, _, _, hs⟩⟩ := step_cases s
  case inr.inr.inl => exact (exec_effect (hs.symm.trans h)).cfg_kept
  all_goals
    cases hs.symm.trans h
    rfl

end Sys2Proof.Machine
end

section
/-!
SUPPORT. Every update keeps the invariant, so every case of a command does, and every step (spec 10 R11, R16, R20 to
R25, 20 R32, R33, 60 R121).
-/

namespace Sys2Proof.Machine

variable {s t : State}

theorem inv_respond {v : Word} (h : s.Inv) (hv : Fits s.cfg.w v) : (respond v s).Inv :=
  { h with rdataFits := fun _ ha => Option.some.inj ha ▸ hv }

theorem inv_complete (h : s.Inv) : (respond 0 s).Inv := inv_respond h (Nat.two_pow_pos _)

theorem inv_reject (h : s.Inv) : (reject s).Inv :=
  { h with rdataFits := fun _ ha => Option.some.inj ha ▸ Nat.two_pow_pos _ }

theorem inv_raise (c : Cause) (h : s.Inv) : (raise c s).Inv :=
  { h with
    quiet := fun hf => absurd hf (by simp)
    causeKnown := fun _ => ⟨c, rfl⟩
    rdataFits := fun _ ha => Option.some.inj ha ▸ Nat.two_pow_pos _ }

theorem inv_acknowledge (h : s.Inv) : (acknowledge s).Inv :=
  { h with quiet := fun _ => ⟨rfl, rfl⟩, causeKnown := fun hf => absurd hf (by simp) }

theorem inv_writeReg (r : Reg) {v : Word} (h : s.Inv) (hv : Fits s.cfg.w v) : (writeReg r v s).Inv :=
  { h with
    regsFit := fun q => by
      have hq : (writeReg r v s).x[q] = if r = q then v else s.x[q] := readReg_writeReg q r v s
      rw [hq]
      split
      · exact hv
      · exact h.regsFit q }

theorem inv_takeDraw (h : s.Inv) : (takeDraw s).Inv := { h with }

theorem inv_setEmpty (b : Bool) (h : s.Inv) : (setEmpty b s).Inv := { h with }

theorem inv_setMode (m : CipherMode) (h : s.Inv) : (setMode m s).Inv := { h with }

theorem inv_loadKey (k : BitVec 10) (h : s.Inv) : (loadKey k s).Inv :=
  { h with keyLoaded := fun _ => rfl, keyAbsent := fun hk => absurd hk (by simp) }

theorem inv_setIv (v : BitVec 8) (h : s.Inv) : (setIv v s).Inv :=
  { h with ivAbsent := fun hi => absurd hi (by simp) }

theorem inv_setChain (v : BitVec 8) (hivv : s.ivv = true) (h : s.Inv) : (setChain v s).Inv :=
  { h with ivAbsent := fun hi => absurd hi (by simp [hivv]) }

theorem inv_emptyPool (h : s.Inv) : (setPoolLen 0 s).Inv := { h with poolLenBound := Nat.zero_le _ }

/-- Appending to a pool that is not full: the new cell lies below POOLCAP. -/
theorem inv_push {v : Word} (h : s.Inv) (hroom : s.poolLen ≠ s.cfg.poolCap) (hv : Fits s.cfg.w v) :
    (setPoolLen (s.poolLen + 1) (poolWrite s.poolLen v s)).Inv :=
  have hlt : s.poolLen < s.cfg.poolCap := lt_of_le_of_ne h.poolLenBound hroom
  { h with
    poolCanonical := poolWrite_wf _ _ h.poolCanonical
    poolFits := fun c hc => by
      obtain rfl | ⟨hc, _⟩ := Memory.mem_write hc
      · exact ⟨hlt, hv⟩
      · exact h.poolFits c hc
    poolLenBound := hlt }

theorem inv_present {w : CmdWord} {d : Word} {rest : List HostMove} (h : s.Inv)
    (hin : s.inbox = .transaction w d :: rest) : (present w d rest s).Inv :=
  { h with
    wdataFits := h.inboxFits (.transaction w d) (by simp [hin])
    inboxFits := fun m hm => h.inboxFits m (hin ▸ List.mem_cons_of_mem _ hm) }

/-- The reset values meet the invariant in every well-formed configuration (10 R30). -/
theorem inv_resetMove {rest : List HostMove} (hc : s.cfg.wellFormed = true)
    (hrest : ∀ m ∈ rest, m.fits s.cfg.w) : (resetMove rest s).Inv where
  cfgWellFormed := hc
  regsFit r := by simp [State.reset]
  poolCanonical := Memory.wf_nil
  poolFits c hcell := nomatch hcell
  poolLenBound := Nat.zero_le _
  quiet _ := ⟨rfl, rfl⟩
  causeKnown hf := nomatch hf
  keyLoaded hk := nomatch hk
  keyAbsent _ := ⟨rfl, rfl, rfl⟩
  ivAbsent _ := ⟨rfl, rfl⟩
  wdataFits := Nat.two_pow_pos _
  inboxFits := hrest
  rdataFits _ ha := nomatch ha

/-- Every case of a command keeps the invariant. -/
theorem Effect.inv {i : Instr} (he : Effect s i t) (h : s.Inv) : t.Inv := by
  cases he with
  | hold => exact inv_complete h
  | showReg ra => exact inv_respond h (h.regsFit ra)
  | showCsr c => exact inv_respond h (h.readCsr_fits c)
  | acknowledged => exact inv_complete (inv_acknowledge h)
  | faulted => exact inv_raise _ h
  | sentinel rd => exact inv_raise _ (inv_writeReg rd h (Nat.two_pow_pos _))
  | result _ hv => exact inv_complete (inv_writeReg _ h (hv h))
  | keyPair rd ra rb hk =>
    obtain ⟨hn, htotient, he, hd⟩ := hk h
    exact inv_complete (inv_writeReg _ (inv_writeReg _ (inv_writeReg _ (inv_writeReg _ h hn) htotient) he) hd)
  | chained _ hivv hv => exact inv_complete (inv_writeReg _ (inv_setChain _ hivv h) (hv h))
  | restarted hivv => exact inv_complete (inv_setChain _ hivv h)
  | cleared => exact inv_complete (inv_emptyPool h)
  | pushed ra hroom => exact inv_complete (inv_push h hroom (h.regsFit ra))
  | sampledNone rd => exact inv_complete (inv_setEmpty _ (inv_writeReg rd h (Nat.two_pow_pos _)))
  | sampled rd i => exact inv_complete (inv_setEmpty _ (inv_writeReg rd (inv_takeDraw h) (h.poolRead_fits i)))
  | keyed k => exact inv_complete (inv_loadKey k h)
  | moded m => exact inv_complete (inv_setMode m h)
  | ivLoaded _ v => exact inv_complete (inv_setIv v h)
  | ivDrawn v => exact inv_complete (inv_setIv v (inv_takeDraw h))

/-- Settles O10: holding, resetting, dropping a word, raising on a reserved one and executing a command each keep the
invariant. -/
theorem stepKeepsInvariant : Obligations.StepKeepsInvariant := by
  intro s t h hstep
  obtain ⟨_, hs⟩ | ⟨rest, hin, hs⟩ | ⟨w, d, rest, hin, hcases⟩ := step_cases s
  · cases hs.symm.trans hstep
    exact h
  · cases hs.symm.trans hstep
    exact inv_resetMove h.cfgWellFormed fun m hm => h.inboxFits m (by simp [hin, hm])
  · have hp := inv_present h hin
    obtain ⟨i, _, _, hs⟩ | ⟨_, _, hs⟩ | ⟨_, _, _, hs⟩ := hcases
    · exact (exec_effect (hs.symm.trans hstep)).inv hp
    · cases hs.symm.trans hstep
      exact inv_reject hp
    · cases hs.symm.trans hstep
      exact inv_raise _ hp

/-- Settles O9: `State.reset` is what the reset move makes of itself. -/
theorem resetStateMeetsInvariant : Obligations.ResetStateMeetsInvariant :=
  inv_resetMove (s := State.reset) (rest := []) (by decide) (by simp)

/-- Settles O8: the fields of the reset move's state. -/
theorem resetGivesTheResetTable : Obligations.ResetGivesTheResetTable := by
  intro s rest hin
  have hstep : step s = .next (resetMove rest s) := by simp [step, hin]
  have hwritten (r : Reg) : (resetMove rest s).written[r] = false := by simp [State.reset]
  exact ⟨_, hstep, rfl, rfl, rfl, rfl, rfl, rfl, rfl, rfl, rfl, rfl, rfl, rfl, rfl, rfl, hwritten, rfl, rfl⟩

end Sys2Proof.Machine
end

section
/-!
SUPPORT. The registers no command has written do not matter (spec 10 R13, R15): two states that differ only there are
taken to two such states by every command that reads written registers only.
-/

namespace Sys2Proof.Machine

variable {s t : State}

/-- Both commands answer, the same, in states that differ only in unwritten registers. -/
def AgreeOnOutcome (a b : Result) : Prop :=
  ∃ s' t', a = .next s' ∧ b = .next t' ∧ AgreeOnWritten s' t' ∧ s'.answer = t'.answer

/-- A written register is read alike. -/
theorem AgreeOnWritten.readReg_eq (h : AgreeOnWritten s t) {r : Reg} (hr : s.written[r] = true) :
    readReg r t = readReg r s := (h.2 r hr).symm

/-- What is computed without the registers is the same of both. -/
theorem AgreeOnWritten.apply_eq {α : Type} (h : AgreeOnWritten s t) (f : State → α)
    (hf : ∀ (u : State) (x : Vector Word 16), f { u with x := x } = f u := by intros; rfl) : f t = f s := by
  rw [h.1, hf]

theorem AgreeOnWritten.poolRead_eq (h : AgreeOnWritten s t) (i : Nat) : poolRead i t = poolRead i s :=
  h.apply_eq (poolRead i)

theorem AgreeOnWritten.drawValue_eq (h : AgreeOnWritten s t) (n : Nat) : drawValue n t = drawValue n s :=
  h.apply_eq (drawValue n)

theorem AgreeOnWritten.readCsr_eq (h : AgreeOnWritten s t) (c : Csr) : readCsr c t = readCsr c s :=
  h.apply_eq (readCsr c) (by cases c <;> intros <;> rfl)

theorem AgreeOnWritten.blockFault_eq (h : AgreeOnWritten s t) (b : Word) : blockFault t b = blockFault s b :=
  h.apply_eq (blockFault · b)

theorem AgreeOnWritten.modeFault_eq (h : AgreeOnWritten s t) (b : Word) : modeFault t b = modeFault s b :=
  h.apply_eq (modeFault · b)

/-- An update that neither reads nor writes the registers, and leaves their written bits. -/
theorem AgreeOnWritten.update {f : State → State} (h : AgreeOnWritten s t)
    (hf : ∀ (u : State) (x : Vector Word 16), f { u with x := x } = { f u with x := x } := by intros; rfl)
    (hx : (f s).x = s.x := by rfl) (hw : (f s).written = s.written := by rfl) : AgreeOnWritten (f s) (f t) := by
  obtain ⟨ht, hagree⟩ := h
  have hft : f t = { f s with x := t.x } := by rw [ht, hf]
  refine ⟨by rw [hft], fun r hr => ?_⟩
  rw [hft, hx]
  exact hagree r (hw ▸ hr)

/-- Writing one value to one register of both. -/
theorem AgreeOnWritten.writeReg (h : AgreeOnWritten s t) (q : Reg) (v : Word) :
    AgreeOnWritten (writeReg q v s) (writeReg q v t) := by
  obtain ⟨ht, hagree⟩ := h
  refine ⟨by rw [ht]; rfl, fun r hr => ?_⟩
  have hs := readReg_writeReg r q v s
  have ht' := readReg_writeReg r q v t
  rw [written_writeReg] at hr
  change readReg r _ = readReg r _
  rw [hs, ht']
  split
  · rfl
  · next hne => exact hagree r (by simpa [hne] using hr)

theorem AgreeOnWritten.setChain (h : AgreeOnWritten s t) (v : BitVec 8) :
    AgreeOnWritten (setChain v s) (setChain v t) := h.update (f := Machine.setChain v)

theorem AgreeOnWritten.respond (h : AgreeOnWritten s t) (v : Word) :
    AgreeOnOutcome (.next (respond v s)) (.next (respond v t)) :=
  ⟨_, _, rfl, rfl, h.update (f := Machine.respond v), rfl⟩

theorem AgreeOnWritten.complete (h : AgreeOnWritten s t) : AgreeOnOutcome (complete s) (complete t) := h.respond 0

theorem AgreeOnWritten.trap (h : AgreeOnWritten s t) (c : Cause) : AgreeOnOutcome (trap c s) (trap c t) :=
  ⟨_, _, rfl, rfl, h.update (f := raise c), rfl⟩

/-- A check that both pass, or both fail. -/
theorem AgreeOnOutcome.ite {p : Prop} [Decidable p] {a a' b b' : Result} (ha : AgreeOnOutcome a a')
    (hb : AgreeOnOutcome b b') : AgreeOnOutcome (if p then a else b) (if p then a' else b') := by
  split
  · exact ha
  · exact hb

/-- A command that reads written registers only leads both states to the same outcome: they take the same branch, since
the source registers and the rest of the state decide it, and make the same writes. -/
theorem exec_agree {i : Instr} (h : AgreeOnWritten s t) (hreads : ReadsWritten i s) :
    AgreeOnOutcome (exec i s) (exec i t) := by
  have hread : (regsRead i).Forall fun r => readReg r t = readReg r s :=
    List.forall_iff_forall_mem.2 fun r hr => h.readReg_eq (hreads r hr)
  have hcfg := h.apply_eq State.cfg
  have hlen := h.apply_eq State.poolLen
  have hmode := h.apply_eq State.mode
  have hk1 := h.apply_eq State.k1
  have hk2 := h.apply_eq State.k2
  cases i with
  | nop => exact h.complete
  | wr rd =>
    simp only [exec, execWr, h.apply_eq State.wdata]
    exact (h.writeReg rd _).complete
  | rd ra =>
    simp only [regsRead, List.Forall] at hread
    simp only [exec, execRd, hread]
    exact h.respond _
  | csrr c =>
    simp only [exec, execCsrr, h.readCsr_eq]
    exact h.respond _
  | errack => exact (h.update (f := acknowledge)).complete
  | mulmod rd ra rb rm =>
    simp only [regsRead, List.Forall] at hread
    simp only [exec, execMulmod, hread, hcfg]
    exact (h.trap _).ite (h.writeReg rd _).complete
  | powmod rd ra rb rm neg =>
    simp only [regsRead, List.Forall] at hread
    simp only [exec, execPowmod, hread, hcfg]
    exact (h.trap _).ite ((h.trap _).ite (h.writeReg rd _).complete)
  | gcd rd ra rb =>
    simp only [regsRead, List.Forall] at hread
    simp only [exec, execGcd, hread]
    exact (h.writeReg rd _).complete
  | modinv rd ra rm =>
    simp only [regsRead, List.Forall] at hread
    simp only [exec, execModinv, hread]
    refine (h.trap _).ite ?_
    cases modinv (readReg ra s) (readReg rm s) with
    | none => exact h.trap _
    | some d => exact (h.writeReg rd d).complete
  | findgen rd ra =>
    simp only [regsRead, List.Forall] at hread
    simp only [exec, execFindgen, hread, hcfg]
    refine (h.trap _).ite ?_
    cases findgen s.cfg.w (readReg ra s) with
    | none => exact (h.writeReg rd 0).trap _
    | some g => exact (h.writeReg rd g).complete
  | rsagen rd ra rb =>
    simp only [regsRead, List.Forall] at hread
    simp only [exec, execRsagen, hread, hcfg]
    cases rsaDerive s.cfg (readReg ra s) (readReg rb s) with
    | error c => exact h.trap c
    | ok k => exact ((((h.writeReg _ k.n).writeReg _ k.totient).writeReg _ k.e).writeReg _ k.d).complete
  | poolclr => exact (h.update (f := setPoolLen 0)).complete
  | poolpush ra =>
    simp only [regsRead, List.Forall] at hread
    simp only [exec, execPoolpush, hread, hcfg, hlen]
    exact (h.trap _).ite
      ((h.update (f := poolWrite s.poolLen (readReg ra s))).update (f := setPoolLen (s.poolLen + 1))).complete
  | poolrd rd ra =>
    simp only [regsRead, List.Forall] at hread
    simp only [exec, execPoolrd, hread, hlen, h.poolRead_eq]
    exact (h.trap _).ite (h.writeReg rd _).complete
  | sample rd =>
    simp only [exec, execSample, hcfg, hlen, h.drawValue_eq, h.poolRead_eq]
    exact ((h.writeReg rd 0).update (f := setEmpty true)).complete.ite
      (((h.update (f := takeDraw)).writeReg rd _).update (f := setEmpty false)).complete
  | keyset ra =>
    simp only [regsRead, List.Forall] at hread
    simp only [exec, execKeyset, hread]
    exact (h.trap _).ite (h.update (f := loadKey (keyOf (readReg ra s)))).complete
  | keydrv ra =>
    simp only [regsRead, List.Forall] at hread
    simp only [exec, execKeydrv, hread]
    exact (h.update (f := loadKey (keyOf (readReg ra s)))).complete
  | fenc rd ra =>
    simp only [regsRead, List.Forall] at hread
    simp only [exec, execFenc, hread, h.blockFault_eq, hcfg, hk1, hk2]
    cases blockFault s (readReg ra s) with
    | some c => exact h.trap c
    | none => exact (h.writeReg rd _).complete
  | fdec rd ra =>
    simp only [regsRead, List.Forall] at hread
    simp only [exec, execFdec, hread, h.blockFault_eq, hcfg, hk1, hk2]
    cases blockFault s (readReg ra s) with
    | some c => exact h.trap c
    | none => exact (h.writeReg rd _).complete
  | setmode m => exact (h.update (f := setMode m)).complete
  | ivset ra =>
    simp only [regsRead, List.Forall] at hread
    simp only [exec, execIvset, hread]
    exact (h.trap _).ite (h.update (f := setIv (blockOf (readReg ra s)))).complete
  | ivgen =>
    simp only [exec, execIvgen, h.drawValue_eq]
    exact ((h.update (f := takeDraw)).update (f := setIv (BitVec.ofNat 8 (drawValue 8 s)))).complete
  | mstart =>
    simp only [exec, execMstart, hmode, h.apply_eq State.ivv, h.apply_eq State.iv]
    cases s.mode with
    | ecb => exact h.complete
    | cbc => exact (h.trap _).ite (h.setChain s.iv).complete
  | cenc rd ra =>
    simp only [regsRead, List.Forall] at hread
    simp only [exec, execCenc, hread, h.modeFault_eq, hmode, hcfg, hk1, hk2, h.apply_eq State.chain]
    cases modeFault s (readReg ra s) with
    | some c => exact h.trap c
    | none =>
      cases s.mode with
      | ecb => exact (h.writeReg rd _).complete
      | cbc => exact ((h.setChain _).writeReg rd _).complete
  | cdec rd ra =>
    simp only [regsRead, List.Forall] at hread
    simp only [exec, execCdec, hread, h.modeFault_eq, hmode, hcfg, hk1, hk2, h.apply_eq State.chain]
    cases modeFault s (readReg ra s) with
    | some c => exact h.trap c
    | none =>
      cases s.mode with
      | ecb => exact (h.writeReg rd _).complete
      | cbc => exact ((h.setChain _).writeReg rd _).complete

/-- Settles O58, by the common outcome of each command. -/
theorem unwrittenRegistersCannotMatter : Obligations.UnwrittenRegistersCannotMatter :=
  fun _ _ _ h hreads => exec_agree h hreads

end Sys2Proof.Machine
end

section
/-!
SUPPORT. The prime pool as a memory (spec 20 R33, R36, R37): which commands change a word of it, and that a word pushed
is the word read back.
-/

namespace Sys2Proof.Machine

variable {i : Instr} {s t : State} {ra rd : Reg}

/-- The pool is as it was, or the command is POOLPUSH and wrote its source at POOLLEN (20 R33, 43 R83). -/
theorem Effect.pool_kept_or (he : Effect s i t) :
    t.pool = s.pool ∨ ∃ ra, i = .poolpush ra ∧ t.pool = (poolWrite s.poolLen (readReg ra s) s).pool := by
  cases he with
  | pushed ra => exact .inr ⟨ra, rfl, rfl⟩
  | _ => exact .inl (by simp)

/-- What an index reads depends on the pool alone. -/
theorem poolRead_eq_of_pool_eq (h : t.pool = s.pool) (j : Nat) : poolRead j t = poolRead j s :=
  congrArg (Memory.read · j) h

/-- POOLPUSH on a pool with room (43 R83). -/
theorem exec_poolpush_of_room (hroom : s.poolLen ≠ s.cfg.poolCap) :
    exec (.poolpush ra) s = complete (setPoolLen (s.poolLen + 1) (poolWrite s.poolLen (readReg ra s) s)) :=
  if_neg hroom

/-- POOLRD of an index below POOLLEN (43 R84). -/
theorem exec_poolrd_of_lt (hlt : readReg ra s < s.poolLen) :
    exec (.poolrd rd ra) s = complete (writeReg rd (poolRead (readReg ra s) s) s) :=
  if_neg hlt.not_ge

/-- Settles O55: the pool is kept, or POOLPUSH wrote the one word at POOLLEN, which no other index reads. -/
theorem poolWordsChangeOnlyByPush : Obligations.PoolWordsChangeOnlyByPush := by
  intro i s t h
  obtain hkept | ⟨ra, rfl, hpushed⟩ := (exec_effect h).pool_kept_or
  · have hread := poolRead_eq_of_pool_eq hkept
    exact ⟨fun _ => hread, fun _ _ j _ => hread j⟩
  · refine ⟨fun hne => absurd rfl (hne ra), fun _ _ j hj => ?_⟩
    calc poolRead j t = poolRead j (poolWrite s.poolLen (readReg ra s) s) := poolRead_eq_of_pool_eq hpushed j
      _ = poolRead j s := by rw [poolRead_poolWrite, if_neg hj]

/-- Settles O37: the index POOLLEN had is below its new value, so POOLRD reads the word written there. -/
theorem pushedWordIsReadBack : Obligations.PushedWordIsReadBack := by
  intro s t ra rd ri hroom hpush hindex
  rw [exec_poolpush_of_room hroom] at hpush
  cases hpush
  set t := respond 0 (setPoolLen (s.poolLen + 1) (poolWrite s.poolLen (readReg ra s) s))
  have hri : readReg ri t = s.poolLen := hindex
  have hlt : readReg ri t < t.poolLen := hri ▸ s.poolLen.lt_succ_self
  have hword : poolRead s.poolLen t = readReg ra s := (poolRead_poolWrite ..).trans (if_pos rfl)
  rw [exec_poolrd_of_lt hlt, hri, hword]
  rfl

end Sys2Proof.Machine
end

section
/-!
SUPPORT. The decoder and the opcode map (spec 30 R47, R48, R50, R54): a word that meets a row has the row's opcode, so it
meets no other and is decoded by that row; the encoder gives it back; the word of a well-formed command meets the
command's row.
-/

namespace Sys2Proof

open Machine

/-- `(w AND mask) = match` (30 R47). -/
def Opcode.Meets (o : Opcode) (w : CmdWord) : Prop := w &&& o.mask = o.pattern

/-- The "match" column is the opcode alone. -/
theorem Opcode.pattern_eq (o : Opcode) : o.pattern = commandWord (opField o.pattern) 0 0 0 0 0 := by cases o <;> decide

/-- Every mask covers the opcode. -/
theorem Opcode.opField_mask (o : Opcode) : opField o.mask = 0xFF := by cases o <;> decide

/-- The flag byte of a byte whose bits 7:1 are zero is that byte. -/
theorem flagByte_getLsbD_zero : ∀ b : BitVec 8, b &&& 0xFE = 0 → flagByte (b.getLsbD 0) = b := by decide

@[simp] theorem CipherMode.bit_ofBit (b : Bool) : (CipherMode.ofBit b).bit = b := by cases b <;> rfl

theorem Csr.index_of_ofIndex {b : BitVec 8} {c : Csr} (h : Csr.ofIndex b = some c) : c.index = b := by
  simpa using List.find?_some h

/-- The populated control registers are those of the indices 0 to 10 (10 R26). -/
theorem Csr.exists_ofIndex_iff : ∀ b : BitVec 8, (∃ c, Csr.ofIndex b = some c) ↔ b ≤ 10 := by
  have h : ∀ b : BitVec 8, (Csr.ofIndex b).isSome = true ↔ b ≤ 10 := by decide
  exact fun b => Option.isSome_iff_exists.symm.trans (h b)

/-- RSAGEN's mask leaves the registers 0, 4, 8 and 12 (30 R47). -/
theorem reg_and_three_iff : ∀ r : Reg, r &&& 3 = 0 ↔ r.val % 4 = 0 := by decide

section
variable {o : Opcode} {w : CmdWord} {i : Instr}

/-- The fields of a word that meets a row: the row's opcode, and nothing where the mask stands. -/
theorem Opcode.Meets.fields (h : o.Meets w) :
    opField w = opField o.pattern ∧ rdField w &&& rdField o.mask = 0 ∧ raField w &&& raField o.mask = 0 ∧
      rbField w &&& rbField o.mask = 0 ∧ rmField w &&& rmField o.mask = 0 ∧ imm8Field w &&& imm8Field o.mask = 0 := by
  have hand : o.pattern = commandWord (opField w &&& opField o.mask) (rdField w &&& rdField o.mask)
      (raField w &&& raField o.mask) (rbField w &&& rbField o.mask) (rmField w &&& rmField o.mask)
      (imm8Field w &&& imm8Field o.mask) := by
    rw [← commandWord_and, commandWord_fields, commandWord_fields]
    exact h.symm
  have hop : opField o.pattern = opField w := by
    rw [hand, opField_commandWord, o.opField_mask]
    exact BitVec.and_allOnes
  rw [o.pattern_eq] at hand
  exact ⟨hop.symm, by simpa using congrArg rdField hand.symm, by simpa using congrArg raField hand.symm,
    by simpa using congrArg rbField hand.symm, by simpa using congrArg rmField hand.symm,
    by simpa using congrArg imm8Field hand.symm⟩

/-- A word that meets a row has that row's opcode. -/
theorem Opcode.Meets.ofOp_eq (h : o.Meets w) : Opcode.ofOp (opField w) = some o := by
  obtain ⟨hop, _⟩ := h.fields
  rw [hop, Opcode.ofOp_pattern]

/-- The row a word meets decodes it. -/
theorem Opcode.Meets.decode_eq (h : o.Meets w) : decode w = operandsOf o w := by
  simp only [decode, h.ofOp_eq]
  exact if_pos h

/-- What the decoder answers as a command, it answers by a row the word meets. -/
theorem decode_eq_command_iff : decode w = .command i ↔ ∃ o : Opcode, o.Meets w ∧ operandsOf o w = .command i := by
  refine ⟨fun h => ?_, fun ⟨o, hm, ho⟩ => hm.decode_eq.trans ho⟩
  unfold decode at h
  split at h
  · cases h
  split at h
  · next o _ hm => exact ⟨o, hm, h⟩
  · cases h

/-! ### Encode, then decode -/

/-- The word of a well-formed command meets the command's row. -/
theorem Instr.opcode_meets_encode (h : i.wellFormed = true) : i.opcode.Meets (encode i) := by
  cases i with
  | nop => exact Laws.EncodesItsRow.nop h
  | wr rd => exact Laws.EncodesItsRow.wr rd h
  | rd ra => exact Laws.EncodesItsRow.rd ra h
  | csrr c => exact Laws.EncodesItsRow.csrr c h
  | errack => exact Laws.EncodesItsRow.errack h
  | mulmod rd ra rb rm => exact Laws.EncodesItsRow.mulmod rd ra rb rm h
  | powmod rd ra rb rm neg => exact Laws.EncodesItsRow.powmod rd ra rb rm neg h
  | gcd rd ra rb => exact Laws.EncodesItsRow.gcd rd ra rb h
  | modinv rd ra rm => exact Laws.EncodesItsRow.modinv rd ra rm h
  | findgen rd ra => exact Laws.EncodesItsRow.findgen rd ra h
  | rsagen rd ra rb => exact Laws.EncodesItsRow.rsagen rd ra rb h
  | poolclr => exact Laws.EncodesItsRow.poolclr h
  | poolpush ra => exact Laws.EncodesItsRow.poolpush ra h
  | poolrd rd ra => exact Laws.EncodesItsRow.poolrd rd ra h
  | sample rd => exact Laws.EncodesItsRow.sample rd h
  | keyset ra => exact Laws.EncodesItsRow.keyset ra h
  | keydrv ra => exact Laws.EncodesItsRow.keydrv ra h
  | fenc rd ra => exact Laws.EncodesItsRow.fenc rd ra h
  | fdec rd ra => exact Laws.EncodesItsRow.fdec rd ra h
  | setmode m => exact Laws.EncodesItsRow.setmode m h
  | ivset ra => exact Laws.EncodesItsRow.ivset ra h
  | ivgen => exact Laws.EncodesItsRow.ivgen h
  | mstart => exact Laws.EncodesItsRow.mstart h
  | cenc rd ra => exact Laws.EncodesItsRow.cenc rd ra h
  | cdec rd ra => exact Laws.EncodesItsRow.cdec rd ra h

/-- The row of a command reads every operand back from the fields the encoder put it in. -/
theorem operandsOf_encode (i : Instr) : operandsOf i.opcode (encode i) = .command i := by
  cases i <;> simp [Instr.opcode, operandsOf, encode, -BitVec.getLsbD_eq_getElem]

/-- Settles O1: the command's word meets the command's row, and the row reads the operands back. -/
theorem decodeOfEncodeIsTheCommand : Obligations.DecodeOfEncodeIsTheCommand :=
  fun i h => (Instr.opcode_meets_encode h).decode_eq.trans (operandsOf_encode i)

/-! ### Decode, then encode -/

/-- A row's command is well formed: RSAGEN's mask leaves four destinations. -/
theorem Opcode.Meets.wellFormed (hm : o.Meets w) (h : operandsOf o w = .command i) : i.wellFormed = true := by
  obtain ⟨-, hrd, -⟩ := hm.fields
  cases o with
  | rsagen =>
    cases h
    simpa [Instr.wellFormed] using (reg_and_three_iff _).1 hrd
  | csrr =>
    simp only [operandsOf] at h
    split at h <;> cases h
    rfl
  | _ => cases h; rfl

/-- A field a row does not use is zero in every word that meets the row. -/
theorem Opcode.Meets.unused (h : o.Meets w) :
    (rdField o.mask = 15 → rdField w = 0) ∧ (raField o.mask = 15 → raField w = 0) ∧
      (rbField o.mask = 15 → rbField w = 0) ∧ (rmField o.mask = 15 → rmField w = 0) ∧
      (imm8Field o.mask = 0xFF → imm8Field w = 0) := by
  obtain ⟨-, hrd, hra, hrb, hrm, hi⟩ := h.fields
  refine ⟨fun hm => ?_, fun hm => ?_, fun hm => ?_, fun hm => ?_, fun hm => ?_⟩
  · rwa [hm, reg_and_all] at hrd
  · rwa [hm, reg_and_all] at hra
  · rwa [hm, reg_and_all] at hrb
  · rwa [hm, reg_and_all] at hrm
  · rw [hm] at hi
    exact BitVec.and_allOnes.symm.trans hi

/-- A row's command is written by the encoder as the word it came from: a field the row does not use is zero, and a
field it uses is an operand. -/
theorem Opcode.Meets.encode_eq (hm : o.Meets w) (h : operandsOf o w = .command i) : encode i = w := by
  obtain ⟨hop, -, -, -, -, hi⟩ := hm.fields
  obtain ⟨hrd, hra, hrb, hrm, himm8⟩ := hm.unused
  refine .trans ?_ (commandWord_fields w)
  cases o with
  | csrr =>
    simp only [operandsOf] at h
    split at h <;> cases h
    next c hc =>
    simp (disch := decide) only [encode, hop, hrd, hra, hrb, hrm, Csr.index_of_ofIndex hc]
    rfl
  | powmod =>
    cases h
    simp only [encode, hop, flagByte_getLsbD_zero _ hi]
    rfl
  | setmode =>
    cases h
    simp (disch := decide) only [encode, hop, hrd, hra, hrb, hrm, CipherMode.bit_ofBit, flagByte_getLsbD_zero _ hi]
    rfl
  | _ =>
    cases h
    simp (disch := decide) only [encode, hop, hrd, hra, hrb, hrm, himm8]
    rfl

/-- Settles O2: a decoded word meets a row, whose command is well formed and is encoded as the word. -/
theorem encodeOfDecodeIsTheWord : Obligations.EncodeOfDecodeIsTheWord := fun _ _ h =>
  have ⟨_, hm, ho⟩ := decode_eq_command_iff.1 h
  ⟨hm.encode_eq ho, hm.wellFormed ho⟩

/-! ### The opcode map -/

/-- The row of the opcode map that a mnemonic names. -/
def Opcode.row (o : Opcode) : CmdWord × CmdWord := (o.pattern, o.mask)

theorem opcodeMap_eq : opcodeMap = Opcode.all.map Opcode.row := by decide

theorem exists_mem_opcodeMap {P : CmdWord × CmdWord → Prop} : (∃ row ∈ opcodeMap, P row) ↔ ∃ o : Opcode, P o.row := by
  simp [opcodeMap_eq, Opcode.mem_all]

/-- A row matches a word that meets it, where the constraint column holds: CSRR's `imm8 <= 10` (30 R47). -/
theorem matchesRow_row_iff : matchesRow w o.row = true ↔ o.Meets w ∧ (o = .csrr → imm8Field w ≤ 10) := by
  have hcsrr : o.pattern = 0x03000000#32 ↔ o = .csrr := by cases o <;> decide
  simp [matchesRow, Opcode.row, Opcode.Meets, hcsrr, Classical.or_iff_not_imp_left]

/-- A row answers a command exactly where the constraint column holds. -/
theorem exists_operandsOf_iff : (∃ i, operandsOf o w = .command i) ↔ (o = .csrr → imm8Field w ≤ 10) := by
  cases o with
  | csrr =>
    rw [← Csr.exists_ofIndex_iff]
    cases h : Csr.ofIndex (imm8Field w) <;> simp [operandsOf, h]
  | _ => exact ⟨fun _ => nofun, fun _ => ⟨_, rfl⟩⟩

/-- A word decodes to a command exactly when a row of the opcode map matches it (30 R50). -/
theorem exists_decode_iff : (∃ i, decode w = .command i) ↔ ∃ row ∈ opcodeMap, matchesRow w row = true :=
  calc (∃ i, decode w = .command i)
      ↔ ∃ o : Opcode, o.Meets w ∧ ∃ i, operandsOf o w = .command i := by
        simp only [decode_eq_command_iff, ← exists_and_left, exists_comm (α := Instr)]
    _ ↔ ∃ o : Opcode, matchesRow w o.row = true := by simp only [exists_operandsOf_iff, matchesRow_row_iff]
    _ ↔ ∃ row ∈ opcodeMap, matchesRow w row = true := (exists_mem_opcodeMap (P := (matchesRow w · = true))).symm

/-- The rows that match a word: at most the one its opcode names. -/
theorem filter_matchesRow_subset :
    opcodeMap.filter (matchesRow w) ⊆ ((Opcode.ofOp (opField w)).map Opcode.row).toList := by
  intro row hrow
  rw [opcodeMap_eq, List.mem_filter, List.mem_map] at hrow
  obtain ⟨⟨o, _, rfl⟩, hm⟩ := hrow
  simp [(matchesRow_row_iff.1 hm).1.ofOp_eq]

theorem length_filter_matchesRow_le_one : (opcodeMap.filter (matchesRow w)).length ≤ 1 := by
  have hnodup : opcodeMap.Nodup := by decide
  exact (List.subperm_of_subset (hnodup.filter _) filter_matchesRow_subset).length_le.trans (Option.length_toList_le ..)

/-- Settles O3: the rows match as the decoder decides, and the opcode names at most one of them. -/
theorem decoderFollowsOpcodeMap : Obligations.DecoderFollowsOpcodeMap :=
  fun _ => ⟨exists_decode_iff, length_filter_matchesRow_le_one⟩

end

end Sys2Proof
end

section
/-!
SUPPORT. The step of a presented word (spec 30 R44, R48, 60 R124, R126): it is executed, dropped, or raised as a reserved
encoding; every step answers, and so does every transaction.
-/

namespace Sys2Proof.Machine

variable {s t : State} {i : Instr} {w : CmdWord} {d : Word} {rest : List HostMove}

/-- What a step does with a presented word. -/
theorem step_transaction_cases (hin : s.inbox = .transaction w d :: rest) :
    (∃ i, decode w = .command i ∧ (s.fault = false ∨ acceptedInFault i = true) ∧ step s = exec i (s.took w d rest)) ∨
      (s.fault = true ∧ (∀ i, decode w = .command i → acceptedInFault i = false) ∧
        step s = .next (s.took w d rest).rejected) ∨
      ∃ why, decode w = .reserved why ∧ s.fault = false ∧ step s = .next ((s.took w d rest).faulted 0x61) := by
  obtain ⟨hnil, _⟩ | ⟨_, hreset, _⟩ | ⟨w', d', rest', hin', h⟩ := step_cases s
  · cases hnil.symm.trans hin
  · cases hreset.symm.trans hin
  · cases hin'.symm.trans hin
    exact h

/-- The four commands the fault filter lets pass (60 R124). -/
theorem acceptedInFault_iff :
    acceptedInFault i = true ↔ i = .nop ∨ (∃ ra, i = .rd ra) ∨ (∃ c, i = .csrr c) ∨ i = .errack := by
  cases i <;> simp [acceptedInFault]

/-- Settles O4: no row matches the word, so it decodes to no command, and the step drops it or raises. -/
theorem reservedEncodingsFaultOrAreDropped : Obligations.ReservedEncodingsFaultOrAreDropped := by
  intro s w d rest hin hrows
  have hnone : ¬∃ i, decode w = .command i := fun h =>
    have ⟨row, hmem, hmatch⟩ := exists_decode_iff.1 h
    absurd hmatch (by simp [hrows row hmem])
  obtain ⟨i, hi, _⟩ | ⟨hf, _, hstep⟩ | ⟨_, _, hf, hstep⟩ := step_transaction_cases hin
  · exact absurd ⟨i, hi⟩ hnone
  · exact ⟨fun h => absurd hf (by simp [h]), fun _ => hstep⟩
  · exact ⟨fun _ => hstep, fun h => absurd hf (by simp [h])⟩

/-- Settles O6: a word that decodes to a command the filter lets pass is neither dropped nor reserved. -/
theorem stepExecutesTheDecodedCommand : Obligations.StepExecutesTheDecodedCommand := by
  intro s w d rest i hin hdec hpass
  rw [← acceptedInFault_iff] at hpass
  obtain ⟨j, hj, _, hstep⟩ | ⟨hf, hdrop, _⟩ | ⟨_, hwhy, _⟩ := step_transaction_cases hin
  · cases hj.symm.trans hdec
    exact hstep
  · simp [hf, hdrop i hdec] at hpass
  · cases hwhy.symm.trans hdec

/-- Settles O11: a step holds, resets, drops or raises, or it executes a command, and every command answers. -/
theorem stepAlwaysAnswersNext : Obligations.StepAlwaysAnswersNext := by
  intro s
  obtain ⟨_, h⟩ | ⟨_, _, h⟩ | ⟨w, d, rest, _, ⟨i, _, _, h⟩ | ⟨_, _, h⟩ | ⟨_, _, _, h⟩⟩ := step_cases s
  case inr.inr.inl =>
    obtain ⟨t, hexec, _⟩ := exec_next_effect (present w d rest s) i
    exact ⟨t, h.trans hexec⟩
  all_goals exact ⟨_, h⟩

theorem Effect.inbox_kept (he : Effect s i t) : t.inbox = s.inbox := by cases he <;> simp

/-- A command that can raise is dropped while FAULT = 1 (60 R121, R124). -/
theorem acceptedInFault_eq_false_of_mem_causesOf {code : BitVec 8} (h : code ∈ causesOf i.opcode) :
    acceptedInFault i = false := by
  cases i with
  | nop | rd | csrr | errack => cases h
  | _ => rfl

/-- A command answers OK, with `rdata` 0 unless it is RD or CSRR, or it is one that FAULT = 1 drops and answers ERR with
`rdata` 0, raising the fault. -/
theorem Effect.answer_cases (he : Effect s i t) :
    (∃ v, t.answer = some ⟨.ok, v⟩ ∧ ((∃ ra, i = .rd ra) ∨ (∃ c, i = .csrr c) ∨ v = 0)) ∨
      (t.answer = some ⟨.err, 0⟩ ∧ t.fault = true ∧ acceptedInFault i = false) := by
  cases he with
  | showReg ra => exact .inl ⟨_, rfl, .inl ⟨ra, rfl⟩⟩
  | showCsr c => exact .inl ⟨_, rfl, .inr (.inl ⟨c, rfl⟩)⟩
  | faulted _ hc => exact .inr ⟨rfl, rfl, acceptedInFault_eq_false_of_mem_causesOf hc⟩
  | sentinel => exact .inr ⟨rfl, rfl, rfl⟩
  | _ => exact .inl ⟨0, rfl, .inr (.inr rfl)⟩

/-- Settles O17: an executed command answers OK or, where no fault stood, ERR; a dropped word REJ; a reserved one ERR. -/
theorem everyTransactionIsAnswered : Obligations.EveryTransactionIsAnswered := by
  intro s t w d rest hin ht
  obtain ⟨i, hdec, hpass, hstep⟩ | ⟨hf, _, hstep⟩ | ⟨_, _, hf, hstep⟩ := step_transaction_cases hin
  · have he := exec_effect (hstep.symm.trans ht)
    refine ⟨he.inbox_kept, ?_⟩
    obtain ⟨v, hans, hv⟩ | ⟨hans, hfault, hdrop⟩ := he.answer_cases
    · refine ⟨_, hans, by simp, fun hrd hcsrr => ?_, by simp, by simp⟩
      obtain ⟨ra, rfl⟩ | ⟨c, rfl⟩ | hv := hv
      · exact absurd hdec (hrd ra)
      · exact absurd hdec (hcsrr c)
      · exact hv
    · have hquiet : s.fault = false := hpass.resolve_right (by simp [hdrop])
      exact ⟨_, hans, fun _ => rfl, fun _ _ => rfl, nofun, fun _ => ⟨hquiet, hfault⟩⟩
  · cases hstep.symm.trans ht
    exact ⟨rfl, _, rfl, fun _ => rfl, fun _ _ => rfl, fun _ => hf, nofun⟩
  · cases hstep.symm.trans ht
    exact ⟨rfl, _, rfl, fun _ => rfl, fun _ _ => rfl, nofun, fun _ => ⟨hf, rfl⟩⟩

/-- Settles O5: each word is decoded by the row it is written out from, and the three neighbours by none. -/
theorem writtenOutWordsDecode : Obligations.WrittenOutWordsDecode := by
  unfold Obligations.WrittenOutWordsDecode
  decide

end Sys2Proof.Machine
end

section
/-!
SUPPORT. The host commands (spec 40 R55 to R59): the meaning of each as one equation, a command the fault filter drops
(60 R124), the word of every CSRR index (10 R26, 30 R48), and STATUS as a number (10 R18).
-/

namespace Sys2Proof

theorem Csr.ofIndex_eq_none {b : BitVec 8} (h : ¬b ≤ 10) : Csr.ofIndex b = none :=
  Option.eq_none_iff_forall_ne_some.2 fun c hc => h ((Csr.exists_ofIndex_iff b).1 ⟨c, hc⟩)

/-- The table of 10 R26 lists each control register at its index. -/
theorem Csr.index_getElem_all : ∀ k : Fin 11, (Csr.all[k.val]'k.isLt).index = BitVec.ofNat 8 k := by decide

/-- CSRR's mask leaves the immediate free, so its word meets its row whatever the index. -/
theorem Opcode.csrr_meets_commandWord (b : BitVec 8) : Opcode.csrr.Meets (commandWord 0x03 0 0 0 0 b) :=
  Laws.EncodesItsRow.masked 15 15 15 15 0 (by decide) (by decide)

theorem decode_csrrWord_reserved {b : BitVec 8} (h : ¬b ≤ 10) :
    decode (commandWord 0x03 0 0 0 0 b) = .reserved .csrIndex := by
  rw [(Opcode.csrr_meets_commandWord b).decode_eq]
  simp only [operandsOf, imm8Field_commandWord, Csr.ofIndex_eq_none h]

end Sys2Proof

namespace Sys2Proof.Machine

/-- STATUS by the place values of its flags (10 R18). -/
theorem statusWord_toNat (s : State) :
    (statusWord s).toNat = s.fault.toNat + 2 * s.keyv.toNat + 4 * s.ivv.toNat +
      8 * (if s.mode = .cbc then 1 else 0) + 16 * s.empty.toNat := by
  have hbits : ∀ e m i k f : Bool,
      (BitVec.ofBool e ++ BitVec.ofBool m ++ BitVec.ofBool i ++ BitVec.ofBool k ++ BitVec.ofBool f).toNat =
        f.toNat + 2 * k.toNat + 4 * i.toNat + 8 * m.toNat + 16 * e.toNat := by decide
  have hmode : (s.mode == .cbc).toNat = if s.mode = .cbc then 1 else 0 := by cases s.mode <;> rfl
  rw [← hmode]
  exact hbits ..

/-! ### The meanings -/

theorem exec_nop (s : State) : exec .nop s = .next (s.answered 0) := rfl

theorem exec_wr (s : State) (rd : Reg) : exec (.wr rd) s = .next ((s.wrote rd s.wdata).answered 0) := rfl

theorem exec_rd (s : State) (ra : Reg) : exec (.rd ra) s = .next (s.answered s.x[ra]) := rfl

theorem exec_csrr (s : State) (c : Csr) : exec (.csrr c) s = .next (s.answered (readCsr c s)) := rfl

theorem exec_errack (s : State) :
    exec .errack s = .next { s with fault := false, ecause := 0, ecmd := 0, answer := some ⟨.ok, 0⟩ } := rfl

/-- A command the fault filter does not let pass is dropped while FAULT = 1 (60 R124). -/
theorem step_dropped {s : State} {w : CmdWord} {d : Word} {rest : List HostMove} {i : Instr}
    (hin : s.inbox = .transaction w d :: rest) (hf : s.fault = true) (hdec : decode w = .command i)
    (hdrop : acceptedInFault i = false) : step s = .next (s.took w d rest).rejected := by
  obtain ⟨j, hj, hpass, _⟩ | ⟨_, _, hstep⟩ | ⟨_, _, hquiet, _⟩ := step_transaction_cases hin
  · cases hj.symm.trans hdec
    simp [hf, hdrop] at hpass
  · exact hstep
  · simp [hf] at hquiet

/-! ### The statements -/

/-- Settles O18: the filter lets NOP pass in every state, and its meaning is the answer alone. -/
theorem nopLeavesTheStateEqual : Obligations.NopLeavesTheStateEqual := by
  have hdec : decode 0x00000000#32 = .command .nop := by decide
  exact ⟨hdec, exec_nop, fun s d rest hin =>
    (stepExecutesTheDecodedCommand s _ d rest .nop hin hdec (.inr (.inl rfl))).trans (exec_nop _)⟩

/-- Settles O19: the word is WR's encoding, and WR is none of the commands the filter lets pass. -/
theorem wrWritesTheDataOperand : Obligations.WrWritesTheDataOperand := by
  have hdec (rd : Reg) : decode (commandWord 0x01 rd 0 0 0 0) = .command (.wr rd) :=
    decodeOfEncodeIsTheCommand (.wr rd) rfl
  exact ⟨hdec, exec_wr, fun _ rd _ _ hin hf => step_dropped hin hf (hdec rd) rfl⟩

/-- Settles O20: the word is RD's encoding, and the filter lets RD pass in every state. -/
theorem rdAnswersTheRegister : Obligations.RdAnswersTheRegister := by
  have hdec (ra : Reg) : decode (commandWord 0x02 0 ra 0 0 0) = .command (.rd ra) :=
    decodeOfEncodeIsTheCommand (.rd ra) rfl
  exact ⟨hdec, exec_rd, fun s ra d rest hin =>
    (stepExecutesTheDecodedCommand s _ d rest _ hin (hdec ra) (.inr (.inr (.inl ⟨ra, rfl⟩)))).trans (exec_rd _ ra)⟩

/-- Settles O21: an index of the table names its register, one above it none, and the answer is what `readCsr` reads. -/
theorem csrrAnswersTheControlRegister : Obligations.CsrrAnswersTheControlRegister := by
  refine ⟨fun k => ⟨Csr.all[k.val]'k.isLt, List.getElem?_eq_getElem k.isLt, ?_⟩, fun k hk hk' => ⟨.csrIndex, ?_⟩,
    fun s => ⟨?_, exec_csrr s .ecause, exec_csrr s .ecmd, exec_csrr s .key, exec_csrr s .k1, exec_csrr s .k2,
      exec_csrr s .iv, exec_csrr s .chain, exec_csrr s .poollen, exec_csrr s .poolcap, exec_csrr s .width⟩,
    fun s w c d rest hin hdec =>
      stepExecutesTheDecodedCommand s w d rest _ hin hdec (.inr (.inr (.inr (.inl ⟨c, rfl⟩))))⟩
  · rw [← Csr.index_getElem_all]
    exact decodeOfEncodeIsTheCommand (.csrr _) rfl
  · exact decode_csrrWord_reserved (by bv_omega)
  · rw [← statusWord_toNat]
    exact exec_csrr s .status

/-- Settles O22: the word is ERRACK's encoding, and the acknowledgement writes the fault record and the answer. -/
theorem errackClearsTheFaultRecord : Obligations.ErrackClearsTheFaultRecord :=
  ⟨by decide, exec_errack⟩

end Sys2Proof.Machine
end

section
/-!
SUPPORT. The modular multiplier (spec 41 R65 to R67): the exact product modulo `m`, its laws, and MULMOD's meaning as an
equation per branch.
-/

namespace Sys2Proof.Machine

section
variable {w a b c m : Nat}

/-- Neither the 2W-bit product nor the W-bit cut of the remainder loses anything: "r < m < 2^W" (41 R65). -/
theorem mulmod_eq (ha : Fits w a) (hb : Fits w b) (hm : Fits w m) (h0 : m ≠ 0) : mulmod w a b m = a * b % m := by
  have hr : Fits w (a * b % m) := (Nat.mod_lt _ (Nat.pos_of_ne_zero h0)).trans hm
  rw [mulmod, wideProduct_toNat ha hb, Nat.mod_eq_of_lt hr]

theorem mulmod_assoc (ha : Fits w a) (hb : Fits w b) (hc : Fits w c) (hm : Fits w m) (h0 : m ≠ 0) :
    mulmod w (mulmod w a b m) c m = mulmod w a (mulmod w b c m) m := by
  rw [mulmod_eq (mulmod_fits w a b m) hc hm h0, mulmod_eq ha (mulmod_fits w b c m) hm h0, mulmod_eq ha hb hm h0,
    mulmod_eq hb hc hm h0, Nat.mod_mul_mod, Nat.mul_mod_mod, mul_assoc]

end

/-- MULMOD with a zero modulus (41 R66). -/
theorem exec_mulmod_of_zero {s : State} {rd ra rb rm : Reg} (h0 : s.x[rm] = 0) :
    exec (.mulmod rd ra rb rm) s = .next (s.faulted 0x11) :=
  if_pos h0

/-- MULMOD with any other modulus (41 R66). -/
theorem exec_mulmod_of_ne_zero {s : State} {rd ra rb rm : Reg} (h0 : s.x[rm] ≠ 0) :
    exec (.mulmod rd ra rb rm) s = .next ((s.wrote rd (mulmod s.cfg.w s.x[ra] s.x[rb] s.x[rm])).answered 0) :=
  if_neg h0

/-- Settles O23: the word is MULMOD's encoding, and the registers hold W-bit values, on which `mulmod` is exact. -/
theorem mulmodIsTheExactProductModulo : Obligations.MulmodIsTheExactProductModulo := by
  refine ⟨fun rd ra rb rm => decodeOfEncodeIsTheCommand (.mulmod rd ra rb rm) rfl,
    fun s rd ra rb rm hinv => ⟨fun h0 => ?_, exec_mulmod_of_zero⟩⟩
  rw [exec_mulmod_of_ne_zero h0, mulmod_eq (hinv.regsFit ra) (hinv.regsFit rb) (hinv.regsFit rm) h0]

/-- Settles O24: each side of a law is a product modulo `m` in the integers. -/
theorem mulmodObeysTheLaws : Obligations.MulmodObeysTheLaws := by
  intro w a b c m hw ha hb hc hm h0
  have hlt (x : Nat) : x % m < m := Nat.mod_lt x (Nat.pos_of_ne_zero h0)
  have hone : Fits w 1 := Nat.one_lt_two_pow (by omega)
  have hab : mulmod w a b m = a * b % m := mulmod_eq ha hb hm h0
  refine ⟨hab ▸ hlt _, ?_, ?_, ?_, mulmod_assoc ha hb hc hm h0, hab⟩
  · rw [hab, mulmod_eq hb ha hm h0, mul_comm]
  · rw [hab, mulmod_eq ((hlt a).trans hm) ((hlt b).trans hm) hm h0, ← Nat.mul_mod]
  · rw [mulmod_eq ha hone hm h0, mul_one]

end Sys2Proof.Machine
end

section
/-!
SUPPORT. The modular exponentiation engine (spec 42 R69 to R72): the exact power modulo `m`, POWMOD's meaning as an
equation per branch, and the symmetry of a Diffie-Hellman exchange.
-/

namespace Sys2Proof.Machine

/-- One round of the loop, on exponents: the bits of `exp` down to `i` are twice those above, plus bit `i`. -/
theorem div_two_pow_eq_two_mul_add_testBit (exp i : Nat) :
    exp / 2 ^ i = 2 * (exp / 2 ^ (i + 1)) + (exp.testBit i).toNat := by
  rw [Nat.toNat_testBit, pow_succ, ← Nat.div_div_eq_div_mul, Nat.div_add_mod]

section
variable {w base exp m : Nat}

/-- The loop's invariant (42 R69): with the bits from `i` up consumed, the accumulator is the power they spell. -/
theorem powmodBits_eq (hm : Fits w m) (h0 : m ≠ 0) (i : Nat) :
    powmodBits w (base % m) exp m i (base ^ (exp / 2 ^ i) % m) = base ^ exp % m := by
  have hfit (x : Nat) : Fits w (x % m) := (Nat.mod_lt x (Nat.pos_of_ne_zero h0)).trans hm
  induction i with
  | zero => simp [powmodBits]
  | succ i ih =>
    have hsq : mulmod w (base ^ (exp / 2 ^ (i + 1)) % m) (base ^ (exp / 2 ^ (i + 1)) % m) m =
        base ^ (2 * (exp / 2 ^ (i + 1))) % m := by
      rw [mulmod_eq (hfit _) (hfit _) hm h0, ← Nat.mul_mod, ← pow_add, two_mul]
    rw [div_two_pow_eq_two_mul_add_testBit] at ih
    simp only [powmodBits, hsq]
    cases hbit : exp.testBit i with
    | false => simpa [hbit] using ih
    | true => simpa [hbit, mulmod_eq (hfit _) (hfit _) hm h0, ← Nat.mul_mod, ← pow_succ] using ih

/-- `powmod` is the power in the integers, reduced modulo `m` (42 R69); the base may have any width. -/
theorem powmod_eq (he : Fits w exp) (hm : Fits w m) (h0 : m ≠ 0) : powmod w base exp m = base ^ exp % m := by
  have h := powmodBits_eq (base := base) (exp := exp) hm h0 w
  rwa [Nat.div_eq_of_lt he, pow_zero] at h

/-- Exponentiating twice multiplies the exponents. -/
theorem powmod_powmod {exp' : Nat} (he : Fits w exp) (he' : Fits w exp') (hm : Fits w m) (h0 : m ≠ 0) :
    powmod w (powmod w base exp m) exp' m = base ^ (exp * exp') % m := by
  rw [powmod_eq he hm h0, powmod_eq he' hm h0, ← Nat.pow_mod, pow_mul]

end

section
variable {s : State} {rd ra rb rm : Reg}

/-- POWMOD with a zero modulus, whatever the sign of the exponent (42 R70). -/
theorem exec_powmod_of_zero (neg : Bool) (h0 : s.x[rm] = 0) :
    exec (.powmod rd ra rb rm neg) s = .next (s.faulted 0x11) :=
  if_pos h0

/-- POWMOD with a negative exponent (42 R70, R71). -/
theorem exec_powmod_neg (h0 : s.x[rm] ≠ 0) : exec (.powmod rd ra rb rm true) s = .next (s.faulted 0x12) :=
  if_neg h0

/-- POWMOD otherwise (42 R70). -/
theorem exec_powmod_of_ne_zero (h0 : s.x[rm] ≠ 0) :
    exec (.powmod rd ra rb rm false) s =
      .next ((s.wrote rd (powmod s.cfg.w s.x[ra] s.x[rb] s.x[rm])).answered 0) :=
  if_neg h0

end

/-- Settles O25: the word is POWMOD's encoding, and the registers hold W-bit values, on which `powmod` is exact. -/
theorem powmodIsTheExactPowerModulo : Obligations.PowmodIsTheExactPowerModulo := by
  refine ⟨fun rd ra rb rm neg => decodeOfEncodeIsTheCommand (.powmod rd ra rb rm neg) rfl,
    fun s rd ra rb rm hinv => ⟨fun h0 => ?_, exec_powmod_neg, exec_powmod_of_zero⟩⟩
  rw [exec_powmod_of_ne_zero h0, powmod_eq (hinv.regsFit rb) (hinv.regsFit rm) h0]

/-- Settles O26: either side's secret is `g ^ (a * b) mod p`. -/
theorem diffieHellmanIsSymmetric : Obligations.DiffieHellmanIsSymmetric := by
  intro w g a b p _ ha hb hp h0
  rw [powmod_powmod ha hb hp h0, powmod_powmod hb ha hp h0, mul_comm]

end Sys2Proof.Machine
end

section
/-!
SUPPORT. Euclid's algorithm and the modular inverse (spec 43 R74, R76), and the key pair RSA derivation gives (43 R80).
-/

namespace Sys2Proof.Machine

/-- The second operand strictly decreases, so more rounds than it counts reach the greatest common divisor (43 R74). -/
theorem euclidLoop_eq_gcd {k a b : Nat} (hk : b < k) : euclidLoop k a b = Nat.gcd a b := by
  induction k generalizing a b with
  | zero => omega
  | succ k ih =>
    unfold euclidLoop
    split
    case isTrue hb => simp [hb]
    case isFalse hb =>
      have hlt : a % b < b := Nat.mod_lt a (Nat.pos_of_ne_zero hb)
      rw [ih (by omega), Nat.gcd_comm a b, Nat.gcd_rec b a, Nat.gcd_comm]

theorem euclidGcd_eq_gcd (a b : Nat) : euclidGcd a b = Nat.gcd a b := euclidLoop_eq_gcd (Nat.lt_succ_self b)

/-- On `(r0, r1)` the extended loop is Euclid's (43 R76). -/
theorem modinvLoop_fst (k r0 r1 : Nat) (t0 t1 : Int) : (modinvLoop k r0 r1 t0 t1).1 = euclidLoop k r0 r1 := by
  induction k generalizing r0 r1 t0 t1 with
  | zero => rfl
  | succ k ih =>
    have hmod : r0 - r0 / r1 * r1 = r0 % r1 := by rw [mul_comm, Nat.mod_eq_sub_mul_div]
    unfold modinvLoop euclidLoop
    split
    · rfl
    · rw [ih, hmod]

/-- The extended loop keeps `a * t ≡ r` modulo `m` for both of its pairs (43 R76). -/
theorem modinvLoop_modEq {a m : Int} (k : Nat) {r0 r1 : Nat} {t0 t1 : Int} (h0 : a * t0 ≡ r0 [ZMOD m])
    (h1 : a * t1 ≡ r1 [ZMOD m]) : a * (modinvLoop k r0 r1 t0 t1).2 ≡ (modinvLoop k r0 r1 t0 t1).1 [ZMOD m] := by
  induction k generalizing r0 r1 t0 t1 with
  | zero => exact h0
  | succ k ih =>
    unfold modinvLoop
    split
    · exact h0
    · refine ih h1 ?_
      push_cast [Nat.div_mul_le_self r0 r1]
      rw [mul_sub, mul_left_comm]
      exact h0.sub (h1.mul_left _)

/-- The extended loop, as `modinv` starts it, ends at the greatest common divisor. -/
theorem modinvLoop_eq_gcd (a m : Nat) : (modinvLoop (a % m + 1) m (a % m) 0 1).1 = Nat.gcd a m := by
  rw [modinvLoop_fst, euclidLoop_eq_gcd (Nat.lt_succ_self _), Nat.gcd_comm m, ← Nat.gcd_rec, Nat.gcd_comm]

/-- What `modinv` answers is an inverse (43 R76). -/
theorem mul_modinv_modEq_one {a m d : Nat} (h0 : m ≠ 0) (h : modinv a m = some d) : a * d ≡ 1 [MOD m] := by
  simp only [modinv, Option.ite_none_right_eq_some, Option.some.injEq] at h
  obtain ⟨hgcd, rfl⟩ := h
  have hinv : a * (modinvLoop (a % m + 1) m (a % m) 0 1).2 ≡ 1 [ZMOD m] := by
    have hloop := modinvLoop_modEq (a := a) (m := m) (r0 := m) (r1 := a % m) (t0 := 0) (t1 := 1) (a % m + 1)
      (by simp [Int.ModEq]) (by simp [Int.ModEq])
    rwa [hgcd] at hloop
  rw [← Int.natCast_modEq_iff]
  push_cast [Int.toNat_of_nonneg (Int.emod_nonneg _ (Int.natCast_ne_zero.2 h0))]
  exact ((Int.mod_modEq _ _).mul_left _).trans hinv

/-- `modinv` answers on every operand coprime to the modulus (43 R76). -/
theorem exists_modinv_of_coprime {a m : Nat} (h : Nat.Coprime a m) : ∃ d, modinv a m = some d :=
  ⟨_, if_pos ((modinvLoop_eq_gcd a m).trans h)⟩

/-- The exponent found by the search is coprime to the totient (43 R80). -/
theorem oddCoprimeFrom_coprime {totient c e : Nat} (k : Nat) (h : oddCoprimeFrom totient k c = some e) :
    Nat.Coprime e totient := by
  induction k generalizing c with
  | zero => simp [oddCoprimeFrom] at h
  | succ k ih =>
    simp only [oddCoprimeFrom, Option.ite_none_right_eq_some] at h
    obtain ⟨_, h⟩ := h
    split at h
    case isTrue hgcd => cases h; exact (euclidGcd_eq_gcd ..).symm.trans hgcd
    case isFalse => exact ih h

/-- The chosen exponent is coprime to the totient (43 R80). -/
theorem chooseExponent_coprime {eDefault totient e : Nat} (h : chooseExponent eDefault totient = some e) :
    Nat.Coprime e totient := by
  unfold chooseExponent at h
  split at h
  case isTrue hgcd => cases h; exact (euclidGcd_eq_gcd ..).symm.trans hgcd
  case isFalse => exact oddCoprimeFrom_coprime totient h

/-- A key pair is valid in the sense of 42 R72: `n = p * q` with p and q distinct, and `e * d ≡ 1` modulo the
totient. -/
theorem rsaDerive_valid {c : Config} {p q : Nat} {k : RsaKey} (hp : Fits c.w p) (hq : Fits c.w q)
    (h : rsaDerive c p q = .ok k) : p ≠ q ∧ k.n = p * q ∧ k.e * k.d ≡ 1 [MOD (p - 1) * (q - 1)] := by
  obtain ⟨_, _, herr⟩ | ⟨e, hne, hp2, hq2, hn, he, hok⟩ := rsaDerive_cases c p q
  · cases herr.symm.trans h
  cases hok.symm.trans h
  obtain ⟨d, hd⟩ := exists_modinv_of_coprime (chooseExponent_coprime he)
  have hpos : (p - 1) * (q - 1) ≠ 0 := Nat.mul_ne_zero (by omega) (by omega)
  refine ⟨hne, ?_, ?_⟩
  · exact (Nat.mod_eq_of_lt hn).trans (wideProduct_toNat hp hq)
  · simpa only [hd, Option.getD_some] using mul_modinv_modEq_one hpos hd

end Sys2Proof.Machine
end

section
/-!
SUPPORT. The RSA round trip (spec 42 R72): Fermat's little theorem for each prime, joined by the Chinese remainder
theorem.
-/

namespace Sys2Proof.Machine

/-- Fermat's little theorem for every base, multiples of `p` included. -/
theorem pow_modEq_self_of_prime {p k : Nat} (hp : p.Prime) (h0 : k ≠ 0) (hk : k ≡ 1 [MOD p - 1]) (m : Nat) :
    m ^ k ≡ m [MOD p] := by
  by_cases hpm : p ∣ m
  · exact (Nat.modEq_zero_iff_dvd.2 (dvd_pow hpm h0)).trans (Nat.modEq_zero_iff_dvd.2 hpm).symm
  · obtain ⟨j, hj⟩ := (Nat.modEq_iff_dvd' (Nat.one_le_iff_ne_zero.2 h0)).1 hk.symm
    have hfermat : m ^ (p - 1) ≡ 1 [MOD p] :=
      Nat.ModEq.pow_card_sub_one_eq_one hp (hp.coprime_iff_not_dvd.2 hpm).symm
    calc m ^ k = (m ^ (p - 1)) ^ j * m := by rw [← pow_mul, ← hj, ← pow_succ, Nat.sub_one_add_one h0]
      _ ≡ 1 ^ j * m [MOD p] := (hfermat.pow j).mul_right m
      _ = m := by simp

/-- Raising to a power congruent to 1 modulo the totient changes nothing modulo `p * q`. -/
theorem pow_modEq_self_of_primes {p q k : Nat} (hp : p.Prime) (hq : q.Prime) (hne : p ≠ q)
    (hk : k ≡ 1 [MOD (p - 1) * (q - 1)]) (m : Nat) : m ^ k ≡ m [MOD p * q] := by
  have h0 : k ≠ 0 := by
    rintro rfl
    have htotient : (p - 1) * (q - 1) = 1 := Nat.dvd_one.1 ((Nat.modEq_iff_dvd' (Nat.zero_le 1)).1 hk)
    obtain ⟨hp1, hq1⟩ := mul_eq_one.1 htotient
    omega
  exact (Nat.modEq_and_modEq_iff_modEq_mul ((Nat.coprime_primes hp hq).2 hne)).1
    ⟨pow_modEq_self_of_prime hp h0 (hk.of_mul_right _) m, pow_modEq_self_of_prime hq h0 (hk.of_mul_left _) m⟩

/-- Settles O32: the two exponents multiply to 1 modulo the totient, so the power of the message is the message. -/
theorem rsaRoundTrip : Obligations.RsaRoundTrip := by
  intro c p q k hc hpfit hqfit hp hq hk m hm
  obtain ⟨hn, _, he, hd⟩ := rsaDerive_fits hc hpfit hqfit hk
  obtain ⟨hne, hnpq, hed⟩ := rsaDerive_valid hpfit hqfit hk
  have hpow : m ^ (k.e * k.d) ≡ m [MOD k.n] := hnpq ▸ pow_modEq_self_of_primes hp hq hne hed m
  rw [powmod_powmod he hd hn (Nat.ne_zero_of_lt hm)]
  exact Nat.mod_eq_of_modEq hpow hm

end Sys2Proof.Machine
end

section
/-!
SUPPORT. The commands GCD and MODINV (spec 43 R75, R77): the meaning of each as an equation per branch, and when the
inverse exists (43 R76).
-/

namespace Sys2Proof.Machine

/-- An operand that has an inverse is coprime to the modulus, and the inverse in `[0, m)` is what `modinv` answers
(43 R76). -/
theorem modinv_eq_some {a m d : Nat} (h0 : m ≠ 0) (hd : d < m) (h : a * d ≡ 1 [MOD m]) : modinv a m = some d := by
  have hcop : Nat.Coprime a m := Nat.coprime_of_mul_modEq_one d h
  obtain ⟨d', hd'⟩ := exists_modinv_of_coprime hcop
  have hmul : a * d' ≡ a * d [MOD m] := (mul_modinv_modEq_one h0 hd').trans h.symm
  have hmod : d' ≡ d [MOD m] := hmul.cancel_left_of_coprime hcop.symm
  rw [hd', hmod.eq_of_lt_of_lt (modinv_lt h0 hd') hd]

/-- `modinv` answers `none` on every operand not coprime to the modulus (43 R76). -/
theorem modinv_eq_none {a m : Nat} (h : Nat.gcd (a % m) m ≠ 1) : modinv a m = none :=
  if_neg fun h1 => h (by rw [← Nat.gcd_rec, Nat.gcd_comm, ← modinvLoop_eq_gcd, h1])

section
variable {s : State} {rd ra rb rm : Reg}

/-- GCD of any operand pair (43 R75). -/
theorem exec_gcd : exec (.gcd rd ra rb) s = .next ((s.wrote rd (euclidGcd s.x[ra] s.x[rb])).answered 0) := rfl

/-- MODINV with a zero modulus (43 R77). -/
theorem exec_modinv_of_zero (h0 : s.x[rm] = 0) : exec (.modinv rd ra rm) s = .next (s.faulted 0x11) :=
  if_pos h0

/-- MODINV where there is no inverse (43 R77). -/
theorem exec_modinv_of_none (h0 : s.x[rm] ≠ 0) (h : modinv s.x[ra] s.x[rm] = none) :
    exec (.modinv rd ra rm) s = .next (s.faulted 0x16) := by
  simp only [exec, execModinv, readReg, h0, h, if_false]
  rfl

/-- MODINV where there is one (43 R77). -/
theorem exec_modinv_of_some {d : Word} (h0 : s.x[rm] ≠ 0) (h : modinv s.x[ra] s.x[rm] = some d) :
    exec (.modinv rd ra rm) s = .next ((s.wrote rd d).answered 0) := by
  simp only [exec, execModinv, readReg, h0, h, if_false]
  rfl

end

/-- Settles O27: the word is GCD's encoding, and Euclid's loop is the greatest common divisor. -/
theorem gcdIsTheGreatestCommonDivisor : Obligations.GcdIsTheGreatestCommonDivisor :=
  ⟨fun rd ra rb => decodeOfEncodeIsTheCommand (.gcd rd ra rb) rfl, fun _ _ _ _ => by
    rw [exec_gcd, euclidGcd_eq_gcd]⟩

/-- Settles O28: an inverse exists exactly for an operand coprime to the modulus, and only one lies in `[0, m)`. -/
theorem modinvIsTheInverseOrFaults : Obligations.ModinvIsTheInverseOrFaults := by
  refine ⟨fun rd ra rm => decodeOfEncodeIsTheCommand (.modinv rd ra rm) rfl, fun s rd ra rm =>
    ⟨fun h0 d hd hinv => exec_modinv_of_some h0 (modinv_eq_some h0 hd hinv), fun h0 hgcd => ?_,
      fun h0 hgcd => exec_modinv_of_none h0 (modinv_eq_none hgcd), exec_modinv_of_zero⟩⟩
  have hcop : Nat.Coprime s.x[ra] s.x[rm] := by rwa [← Nat.gcd_rec, Nat.gcd_comm] at hgcd
  obtain ⟨d, hd⟩ := exists_modinv_of_coprime hcop
  exact ⟨d, modinv_lt h0 hd, mul_modinv_modEq_one h0 hd⟩

end Sys2Proof.Machine
end

section
/-!
SUPPORT. The generator search (spec 43 R78, R79): its inner loop tests that the powers are distinct and not 0, its outer
loop answers the first candidate that passes.
-/

namespace Sys2Proof.Machine

/-- The `k`-th power of `g` modulo `p` is not 0, and no earlier one equals it: the test of one round (43 R78). -/
def FreshPower (p g k : Nat) : Prop := g ^ k % p ≠ 0 ∧ ∀ j, 1 ≤ j → j < k → g ^ j % p ≠ g ^ k % p

/-- The powers are distinct and not 0 when each round's test passes. -/
theorem powersDistinct_iff_freshPower {p g : Nat} :
    PowersDistinct p g ↔ ∀ k, 1 ≤ k → k < 1 + (p - 1) → FreshPower p g k :=
  ⟨fun h k hk hkp => ⟨h.1 k hk (by omega), fun j hj hjk => h.2 j k hj hjk (by omega)⟩,
    fun h => ⟨fun k hk hkp => (h k hk (by omega)).1, fun j k hj hjk hkp => (h k (by omega) (by omega)).2 j hj hjk⟩⟩

section
variable {w p g : Nat}

/-- The inner loop with the powers before the `k`-th seen tests the `n` powers from there on (43 R78). -/
theorem powersDistinct_loop_iff (hp : Fits w p) (hg : g < p) (n : Nat) {k : Nat} {seen : List Nat}
    (hseen : ∀ v, v ∈ seen ↔ ∃ j, 1 ≤ j ∧ j < k ∧ g ^ j % p = v) (hk : 1 ≤ k) :
    powersDistinct w g p n (g ^ k % p) seen = true ↔ ∀ i, k ≤ i → i < k + n → FreshPower p g i := by
  have h0 : p ≠ 0 := Nat.ne_zero_of_lt hg
  induction n generalizing k seen with
  | zero => exact iff_of_true rfl fun i hi hin => by omega
  | succ n ih =>
    have hnext : mulmod w (g ^ k % p) g p = g ^ (k + 1) % p := by
      rw [mulmod_eq ((Nat.mod_lt _ (Nat.pos_of_ne_zero h0)).trans hp) (hg.trans hp) hp h0, Nat.mod_mul_mod, ← pow_succ]
    have hfresh : ¬(g ^ k % p = 0 ∨ g ^ k % p ∈ seen) ↔ FreshPower p g k := by
      rw [hseen, not_or]
      exact and_congr_right fun _ => by push Not; rfl
    have hseen' (v : Nat) : v ∈ g ^ k % p :: seen ↔ ∃ j, 1 ≤ j ∧ j < k + 1 ∧ g ^ j % p = v := by
      rw [List.mem_cons, hseen]
      constructor
      · rintro (rfl | ⟨j, hj, hjk, rfl⟩)
        · exact ⟨k, hk, k.lt_succ_self, rfl⟩
        · exact ⟨j, hj, by omega, rfl⟩
      · rintro ⟨j, hj, hjk, rfl⟩
        obtain hlt | rfl := Nat.lt_succ_iff_lt_or_eq.1 hjk
        · exact .inr ⟨j, hj, hlt, rfl⟩
        · exact .inl rfl
    unfold powersDistinct
    split
    case isTrue hbad =>
      exact iff_of_false (by simp) fun h => hfresh.2 (h k le_rfl (by omega)) hbad
    case isFalse hok =>
      rw [hnext]
      refine (ih hseen' (by omega)).trans ⟨fun h i hi hin => ?_, fun h i hi hin => h i (by omega) (by omega)⟩
      obtain rfl | hlt := hi.eq_or_lt
      · exact hfresh.1 hok
      · exact h i hlt (by omega)

/-- The inner loop as the search runs it (43 R78). -/
theorem powersDistinct_iff (hp : Fits w p) (hg : g < p) :
    powersDistinct w g p (p - 1) g [] = true ↔ PowersDistinct p g := by
  have hloop := powersDistinct_loop_iff hp hg (p - 1) (k := 1) (seen := []) (fun v => by simp) le_rfl
  rwa [pow_one, Nat.mod_eq_of_lt hg, ← powersDistinct_iff_freshPower] at hloop

/-- The outer loop answers the first of its candidates that passes the inner one (43 R78). -/
theorem findgenFrom_eq_find? (w p k c : Nat) :
    findgenFrom w p k c = (List.range' c k).find? fun g => powersDistinct w g p (p - 1) g [] := by
  induction k generalizing c with
  | zero => rfl
  | succ k ih =>
    rw [findgenFrom, List.range'_succ, List.find?_cons, ih]
    cases powersDistinct w c p (p - 1) c [] <;> rfl

/-- The search answers the first generator, for a modulus of width W (43 R78). -/
theorem findgen_eq_some_iff (hp : Fits w p) : findgen w p = some g ↔ FirstGenerator p g := by
  rw [findgen, findgenFrom_eq_find?, List.find?_range'_eq_some, List.mem_range'_1]
  constructor
  · rintro ⟨hpass, ⟨h2, hlt⟩, hfirst⟩
    refine ⟨h2, by omega, (powersDistinct_iff hp (by omega)).1 hpass, fun h hh2 hhg hdist => ?_⟩
    have hfail := hfirst h hh2 hhg
    rw [(powersDistinct_iff hp (by omega)).2 hdist] at hfail
    exact absurd hfail (by decide)
  · rintro ⟨h2, hle, hdist, hfirst⟩
    refine ⟨(powersDistinct_iff hp (by omega)).2 hdist, ⟨h2, by omega⟩, fun h hh2 hhg => ?_⟩
    rw [Bool.not_eq_true', ← Bool.not_eq_true, powersDistinct_iff hp (by omega)]
    exact hfirst h hh2 hhg

end

section
variable {s : State} {rd ra : Reg}

/-- FINDGEN with a zero modulus (43 R79). -/
theorem exec_findgen_of_zero (h0 : s.x[ra] = 0) : exec (.findgen rd ra) s = .next (s.faulted 0x11) :=
  if_pos h0

/-- FINDGEN where no candidate qualifies: the sentinel and the fault (43 R79). -/
theorem exec_findgen_of_none (h0 : s.x[ra] ≠ 0) (h : findgen s.cfg.w s.x[ra] = none) :
    exec (.findgen rd ra) s = .next ((s.wrote rd 0).faulted 0x51) := by
  simp only [exec, execFindgen, readReg, h0, h, if_false]
  rfl

/-- FINDGEN where one does (43 R79). -/
theorem exec_findgen_of_some {g : Word} (h0 : s.x[ra] ≠ 0) (h : findgen s.cfg.w s.x[ra] = some g) :
    exec (.findgen rd ra) s = .next ((s.wrote rd g).answered 0) := by
  simp only [exec, execFindgen, readReg, h0, h, if_false]
  rfl

end

/-- Settles O29: the register holds a W-bit modulus, on which the search answers the first generator and nothing else. -/
theorem findgenAnswersTheFirstGenerator : Obligations.FindgenAnswersTheFirstGenerator := by
  refine ⟨fun rd ra => decodeOfEncodeIsTheCommand (.findgen rd ra) rfl, fun s rd ra hinv =>
    ⟨fun h0 g hg => exec_findgen_of_some h0 ((findgen_eq_some_iff (hinv.regsFit ra)).2 hg),
      fun h0 hnone => exec_findgen_of_none h0 ?_, exec_findgen_of_zero⟩⟩
  exact Option.eq_none_iff_forall_ne_some.2 fun g hg => hnone ⟨g, (findgen_eq_some_iff (hinv.regsFit ra)).1 hg⟩

end Sys2Proof.Machine
end

section
/-!
SUPPORT. The generator search in terms of multiplicative order (spec 43 R78, "Equivalently"): the powers of `g` are
distinct and not 0 when `g` has order `p - 1`, and such a `g` in `[2, p - 1]` exists for the primes of at least 3 alone.
-/

namespace Sys2Proof.Machine

variable {p g : Nat}

/-- The model's remainders of powers, read in `ZMod p`. -/
theorem pow_mod_eq_pow_mod_iff {j k : Nat} : g ^ j % p = g ^ k % p ↔ (g : ZMod p) ^ j = (g : ZMod p) ^ k := by
  rw [← Nat.cast_pow, ← Nat.cast_pow, ZMod.natCast_eq_natCast_iff']

theorem pow_mod_eq_zero_iff {k : Nat} : g ^ k % p = 0 ↔ (g : ZMod p) ^ k = 0 := by
  rw [← Nat.cast_pow, ZMod.natCast_eq_zero_iff, Nat.dvd_iff_mod_eq_zero]

/-- Distinct nonzero powers are `p - 1` in number, so they are all the nonzero residues, and 1 is one of them. -/
theorem PowersDistinct.exists_pow_eq_one (hp : 2 ≤ p) (h : PowersDistinct p g) :
    ∃ k, 1 ≤ k ∧ k ≤ p - 1 ∧ (g : ZMod p) ^ k = 1 := by
  have : NeZero p := ⟨by omega⟩
  have : Fact (1 < p) := ⟨hp⟩
  obtain ⟨hne, hdist⟩ := h
  have hmaps : Set.MapsTo (fun k => (g : ZMod p) ^ k) (Finset.Icc 1 (p - 1)) (Finset.univ.erase 0 : Finset (ZMod p)) := by
    intro k hk
    obtain ⟨hk1, hkp⟩ := Finset.mem_Icc.1 hk
    simpa using fun h => hne k hk1 hkp (pow_mod_eq_zero_iff.2 h)
  have hinj : Set.InjOn (fun k => (g : ZMod p) ^ k) (Finset.Icc 1 (p - 1)) := by
    intro j hj k hk hjk
    obtain ⟨hj1, hjp⟩ := Finset.mem_Icc.1 hj
    obtain ⟨hk1, hkp⟩ := Finset.mem_Icc.1 hk
    obtain hlt | heq | hgt := lt_trichotomy j k
    · exact absurd (pow_mod_eq_pow_mod_iff.2 hjk) (hdist j k hj1 hlt hkp)
    · exact heq
    · exact absurd (pow_mod_eq_pow_mod_iff.2 hjk.symm) (hdist k j hk1 hgt hjp)
  have hsurj := Finset.surjOn_of_injOn_of_card_le _ hmaps hinj (by simp [ZMod.card])
  obtain ⟨k, hk, hpow⟩ := hsurj (show (1 : ZMod p) ∈ _ by simp)
  obtain ⟨hk1, hkp⟩ := Finset.mem_Icc.1 hk
  exact ⟨k, hk1, hkp, hpow⟩

/-- The powers of `g` are distinct and not 0 exactly when `g` has order `p - 1`. -/
theorem powersDistinct_iff_orderOf (hp : 2 ≤ p) : PowersDistinct p g ↔ orderOf (g : ZMod p) = p - 1 := by
  have : Fact (1 < p) := ⟨hp⟩
  constructor
  · intro h
    obtain ⟨k, hk1, hkp, hpow⟩ := h.exists_pow_eq_one hp
    have hpos : 0 < orderOf (g : ZMod p) := orderOf_pos_iff.2 (isOfFinOrder_iff_pow_eq_one.2 ⟨k, hk1, hpow⟩)
    have hle : orderOf (g : ZMod p) ≤ k := orderOf_le_of_pow_eq_one hk1 hpow
    obtain ⟨_, hdist⟩ := h
    by_contra hne
    refine hdist 1 (orderOf (g : ZMod p) + 1) le_rfl (by omega) (by omega) (pow_mod_eq_pow_mod_iff.2 ?_)
    rw [pow_one, pow_succ _ (orderOf (g : ZMod p)), pow_orderOf_eq_one, one_mul]
  · intro h
    have hone : (g : ZMod p) ^ (p - 1) = 1 := h ▸ pow_orderOf_eq_one _
    have hunit : IsUnit (g : ZMod p) := IsUnit.of_pow_eq_one hone (by omega)
    refine ⟨fun k _ _ hk => (hunit.pow k).ne_zero (pow_mod_eq_zero_iff.1 hk), fun j k hj hjk hkp heq => ?_⟩
    refine pow_ne_one_of_lt_orderOf (x := (g : ZMod p)) (n := j + (p - 1 - k)) (by omega) (by omega) ?_
    calc (g : ZMod p) ^ (j + (p - 1 - k)) = g ^ k * g ^ (p - 1 - k) := by rw [pow_add, pow_mod_eq_pow_mod_iff.1 heq]
      _ = 1 := by rw [← pow_add, Nat.add_sub_cancel' hkp, hone]

/-- An element of order `p - 1` makes `p` prime: the order divides the totient of `p`. -/
theorem prime_of_orderOf_eq {x : ZMod p} (hp : 2 ≤ p) (h : orderOf x = p - 1) : p.Prime := by
  have : NeZero p := ⟨by omega⟩
  have hunit : IsUnit x := IsUnit.of_pow_eq_one (h ▸ pow_orderOf_eq_one x) (by omega)
  obtain ⟨u, rfl⟩ := hunit
  rw [orderOf_units] at h
  have hdvd : p - 1 ∣ p.totient := by rw [← h, ← ZMod.card_units_eq_totient]; exact orderOf_dvd_card
  have hle : p - 1 ≤ p.totient := Nat.le_of_dvd (Nat.totient_pos.2 (by omega)) hdvd
  have hlt : p.totient < p := Nat.totient_lt p hp
  exact (Nat.totient_eq_iff_prime (by omega)).1 (by omega)

/-- The units modulo a prime are cyclic, and a generator other than 1 lies in `[2, p - 1]`. -/
theorem exists_orderOf_eq_of_prime (hp : p.Prime) (h3 : 3 ≤ p) :
    ∃ g, 2 ≤ g ∧ g ≤ p - 1 ∧ orderOf (g : ZMod p) = p - 1 := by
  have : Fact p.Prime := ⟨hp⟩
  obtain ⟨u, hu⟩ := IsCyclic.exists_generator (α := (ZMod p)ˣ)
  have horder : orderOf ((u : ZMod p).val : ZMod p) = p - 1 := by
    rw [ZMod.natCast_zmod_val, orderOf_units, orderOf_eq_card_of_forall_mem_zpowers hu, Nat.card_eq_fintype_card,
      ZMod.card_units]
  have hlt : (u : ZMod p).val < p := ZMod.val_lt _
  refine ⟨(u : ZMod p).val, ?_, by omega, horder⟩
  by_contra hsmall
  obtain h0 | h1 : (u : ZMod p).val = 0 ∨ (u : ZMod p).val = 1 := by omega
  · exact u.ne_zero ((ZMod.val_eq_zero _).1 h0)
  · rw [h1, Nat.cast_one, orderOf_one] at horder
    omega

/-- A candidate that qualifies gives a first one. -/
theorem exists_firstGenerator (h2 : 2 ≤ g) (hg : g ≤ p - 1) (hdist : PowersDistinct p g) :
    ∃ g, FirstGenerator p g := by
  classical
  have hex : ∃ g, 2 ≤ g ∧ PowersDistinct p g := ⟨g, h2, hdist⟩
  obtain ⟨hfind2, hfindDist⟩ := Nat.find_spec hex
  exact ⟨Nat.find hex, hfind2, (Nat.find_min' hex ⟨h2, hdist⟩).trans hg, hfindDist,
    fun h hh2 hlt hh => Nat.find_min hex hlt ⟨hh2, hh⟩⟩

/-- Settles O30: what qualifies is what has order `p - 1`; a prime of at least 3 has such an element, no other `p` has. -/
theorem findgenSucceedsExactlyOnOddPrimes : Obligations.FindgenSucceedsExactlyOnOddPrimes := by
  intro w p _ hp _
  refine ⟨⟨?_, ?_⟩, ?_⟩
  · rintro ⟨g, hfind⟩
    obtain ⟨h2, hle, hdist, _⟩ := (findgen_eq_some_iff hp).1 hfind
    exact ⟨prime_of_orderOf_eq (by omega) ((powersDistinct_iff_orderOf (by omega)).1 hdist), by omega⟩
  · rintro ⟨hprime, h3⟩
    obtain ⟨g, h2, hle, horder⟩ := exists_orderOf_eq_of_prime hprime h3
    obtain ⟨f, hf⟩ := exists_firstGenerator h2 hle ((powersDistinct_iff_orderOf (by omega)).2 horder)
    exact ⟨f, (findgen_eq_some_iff hp).2 hf⟩
  · intro g hfind
    obtain ⟨h2, hle, hdist, hfirst⟩ := (findgen_eq_some_iff hp).1 hfind
    exact ⟨h2, hle, (powersDistinct_iff_orderOf (by omega)).1 hdist, fun h hh2 hhg horder =>
      hfirst h hh2 hhg ((powersDistinct_iff_orderOf (by omega)).2 horder)⟩

end Sys2Proof.Machine
end

section
/-!
SUPPORT. The command RSAGEN (spec 43 R80, R81): the exponent search answers the exponent the rule chooses, and each
outcome of the derivation on W-bit operands.
-/

namespace Sys2Proof.Machine

section
variable {totient c e eDefault : Nat}

/-- The search from an odd `c`, with rounds enough to pass the totient, answers the least candidate from `c` on
(43 R80). -/
theorem oddCoprimeFrom_eq_some_iff {k : Nat} (hodd : c % 2 = 1) (h3 : 3 ≤ c) (hk : totient ≤ c + 2 * k) :
    oddCoprimeFrom totient k c = some e ↔
      ExponentCandidate totient e ∧ c ≤ e ∧ ∀ b, c ≤ b → b < e → ¬ExponentCandidate totient b := by
  induction k generalizing c with
  | zero =>
    refine iff_of_false (by simp [oddCoprimeFrom]) ?_
    rintro ⟨⟨_, _, hlt, _⟩, hle, _⟩
    omega
  | succ k ih =>
    unfold oddCoprimeFrom
    rw [euclidGcd_eq_gcd]
    split
    case isFalse hge =>
      refine iff_of_false nofun ?_
      rintro ⟨⟨_, _, hlt, _⟩, hle, _⟩
      omega
    case isTrue hlt =>
    split
    case isTrue hgcd =>
      have hcand : ExponentCandidate totient c := ⟨hodd, h3, hlt, hgcd⟩
      constructor
      · rintro ⟨⟩
        exact ⟨hcand, le_rfl, fun b hcb hbc => by omega⟩
      · rintro ⟨_, hle, hleast⟩
        obtain rfl | hlt := hle.eq_or_lt
        · rfl
        · exact absurd hcand (hleast c le_rfl hlt)
    case isFalse hgcd =>
      have hskip {b : Nat} (hcb : c ≤ b) (hb : ExponentCandidate totient b) : c + 2 ≤ b := by
        obtain ⟨hbodd, _, _, hbgcd⟩ := hb
        obtain rfl | hlt := hcb.eq_or_lt
        · exact absurd hbgcd hgcd
        · omega
      rw [ih (by omega) (by omega) (by omega)]
      constructor
      · rintro ⟨hcand, hle, hleast⟩
        exact ⟨hcand, by omega, fun b hcb hbe hb => hleast b (hskip hcb hb) hbe hb⟩
      · rintro ⟨hcand, hle, hleast⟩
        exact ⟨hcand, hskip hle hcand, fun b hcb hbe => hleast b (by omega) hbe⟩

/-- The exponent choice is the rule's (43 R80). -/
theorem chooseExponent_eq_some_iff : chooseExponent eDefault totient = some e ↔ ChosenExponent eDefault totient e := by
  unfold chooseExponent ChosenExponent
  rw [euclidGcd_eq_gcd]
  split
  case isTrue hgcd => simp [hgcd, eq_comm]
  case isFalse hgcd =>
    rw [oddCoprimeFrom_eq_some_iff rfl le_rfl (by omega)]
    simp only [hgcd, false_and, false_or, ne_eq, not_false_eq_true, true_and]
    constructor
    · rintro ⟨hcand, _, hleast⟩
      refine ⟨hcand, fun b hbe hb => ?_⟩
      have ⟨_, h3, _⟩ := hb
      exact hleast b h3 hbe hb
    · rintro ⟨hcand, hleast⟩
      have ⟨_, h3, _⟩ := hcand
      exact ⟨hcand, h3, fun b _ => hleast b⟩

end

section
variable {cfg : Config} {p q : Nat}

theorem rsaDerive_of_eq (h : p = q) : rsaDerive cfg p q = .error .equalPrimes := if_pos h

theorem rsaDerive_of_lt_two (hne : p ≠ q) (h : p < 2 ∨ q < 2) : rsaDerive cfg p q = .error .zeroModulus := by
  rw [rsaDerive, if_neg hne, if_pos h]

theorem rsaDerive_of_overflow (hp : Fits cfg.w p) (hq : Fits cfg.w q) (hne : p ≠ q) (hp2 : 2 ≤ p) (hq2 : 2 ≤ q)
    (hn : 2 ^ cfg.w ≤ p * q) : rsaDerive cfg p q = .error .rangeOverflow := by
  have hsmall : ¬(p < 2 ∨ q < 2) := by omega
  rw [rsaDerive, if_neg hne, if_neg hsmall, wideProduct_toNat hp hq, if_pos hn]

section
variable (hp : Fits cfg.w p) (hq : Fits cfg.w q) (hne : p ≠ q) (hp2 : 2 ≤ p) (hq2 : 2 ≤ q) (hn : p * q < 2 ^ cfg.w)
include hp hq hne hp2 hq2 hn

/-- The derivation past its checks: it takes the chosen exponent (43 R80). -/
theorem rsaDerive_of_checks :
    rsaDerive cfg p q = (chooseExponent cfg.eDefault ((p - 1) * (q - 1))).elim (.error .noExponent) fun e =>
      .ok ⟨p * q, (p - 1) * (q - 1), e, (modinv e ((p - 1) * (q - 1))).getD 0⟩ := by
  have hsmall : ¬(p < 2 ∨ q < 2) := by omega
  rw [rsaDerive, if_neg hne, if_neg hsmall, wideProduct_toNat hp hq, if_neg hn.not_ge, Nat.mod_eq_of_lt hn]
  dsimp only
  cases chooseExponent cfg.eDefault ((p - 1) * (q - 1)) <;> rfl

theorem rsaDerive_of_no_exponent (hnone : ¬∃ e, ChosenExponent cfg.eDefault ((p - 1) * (q - 1)) e) :
    rsaDerive cfg p q = .error .noExponent := by
  have hchoose : chooseExponent cfg.eDefault ((p - 1) * (q - 1)) = none :=
    Option.eq_none_iff_forall_ne_some.2 fun e he => hnone ⟨e, chooseExponent_eq_some_iff.1 he⟩
  rw [rsaDerive_of_checks hp hq hne hp2 hq2 hn, hchoose, Option.elim_none]

/-- The chosen exponent is coprime to the totient, so its inverse exists and is the key's `d` (43 R80, R81). -/
theorem rsaDerive_of_chosen {e : Nat} (he : ChosenExponent cfg.eDefault ((p - 1) * (q - 1)) e) :
    ∃ d, d < (p - 1) * (q - 1) ∧ d * e ≡ 1 [MOD (p - 1) * (q - 1)] ∧
      rsaDerive cfg p q = .ok ⟨p * q, (p - 1) * (q - 1), e, d⟩ := by
  rw [← chooseExponent_eq_some_iff] at he
  have hpos : (p - 1) * (q - 1) ≠ 0 := Nat.mul_ne_zero (by omega) (by omega)
  obtain ⟨d, hd⟩ := exists_modinv_of_coprime (chooseExponent_coprime he)
  refine ⟨d, modinv_lt hpos hd, mul_comm e d ▸ mul_modinv_modEq_one hpos hd, ?_⟩
  rw [rsaDerive_of_checks hp hq hne hp2 hq2 hn, he, Option.elim_some, hd, Option.getD_some]

end

end

section
variable {s : State} {rd ra rb : Reg}

/-- RSAGEN where the derivation answers a cause (43 R81). -/
theorem exec_rsagen_of_error {c : Cause} (h : rsaDerive s.cfg s.x[ra] s.x[rb] = .error c) :
    exec (.rsagen rd ra rb) s = .next (s.faulted c.code) := by
  simp only [exec, execRsagen, readReg, h]
  rfl

/-- RSAGEN where it answers a key pair (43 R81). -/
theorem exec_rsagen_of_ok {k : RsaKey} (h : rsaDerive s.cfg s.x[ra] s.x[rb] = .ok k) :
    exec (.rsagen rd ra rb) s = .next (((((s.wrote rd k.n).wrote (rd + 1) k.totient).wrote (rd + 2) k.e).wrote
      (rd + 3) k.d).answered 0) := by
  simp only [exec, execRsagen, readReg, h, regAfter_eq]
  rfl

end

/-- Settles O31: the word is RSAGEN's encoding, the checks come in the rule's order, and the exponent chosen is coprime
to the totient, so that its inverse exists. -/
theorem rsagenDerivesTheKeyPair : Obligations.RsagenDerivesTheKeyPair := by
  refine ⟨fun rd ra rb hrd => decodeOfEncodeIsTheCommand (.rsagen rd ra rb) (beq_iff_eq.2 hrd),
    fun s rd ra rb hinv _ => ?_⟩
  have hp := hinv.regsFit ra
  have hq := hinv.regsFit rb
  refine ⟨fun heq => exec_rsagen_of_error (rsaDerive_of_eq heq),
    fun hne hsmall => exec_rsagen_of_error (rsaDerive_of_lt_two hne hsmall),
    fun hne hp2 hq2 hn => exec_rsagen_of_error (rsaDerive_of_overflow hp hq hne hp2 hq2 hn),
    fun hne hp2 hq2 hn hnone => exec_rsagen_of_error (rsaDerive_of_no_exponent hp hq hne hp2 hq2 hn hnone),
    fun hne hp2 hq2 hn e he => ?_⟩
  obtain ⟨d, hlt, hinverse, hok⟩ := rsaDerive_of_chosen hp hq hne hp2 hq2 hn he
  refine ⟨d, hlt, hinverse, ?_⟩
  rw [exec_rsagen_of_ok hok]

end Sys2Proof.Machine
end

section
/-!
SUPPORT. The pool commands POOLCLR, POOLPUSH, POOLRD, SAMPLE (spec 43 R82 to R85), an equation per branch.
-/

namespace Sys2Proof.Machine

variable {s : State} {rd ra : Reg}

theorem exec_poolclr : exec .poolclr s = .next ({ s with poolLen := 0 }.answered 0) := rfl

/-- POOLPUSH on a full pool (43 R83). -/
theorem exec_poolpush_of_full (hfull : s.poolLen = s.cfg.poolCap) :
    exec (.poolpush ra) s = .next (s.faulted 0x64) :=
  if_pos hfull

/-- POOLRD of an index no word stands at (43 R84). -/
theorem exec_poolrd_of_ge (hge : s.poolLen ≤ s.x[ra]) : exec (.poolrd rd ra) s = .next (s.faulted 0x65) :=
  if_pos hge

/-- SAMPLE of an empty pool (43 R85). -/
theorem exec_sample_of_empty (hempty : s.poolLen = 0) :
    exec (.sample rd) s = .next ({ s.wrote rd 0 with empty := true }.answered 0) :=
  if_pos hempty

/-- SAMPLE of a pool with words (43 R85). -/
theorem exec_sample_of_ne_zero (hsome : s.poolLen ≠ 0) :
    exec (.sample rd) s = .next ({ s.wrote rd (poolRead (drawValue s.cfg.w s % s.poolLen) s) with
      empty := false, draws := s.draws.tail, drawCount := s.drawCount + 1 }.answered 0) :=
  if_neg hsome

/-- Settles O33: the word is POOLCLR's encoding, and POOLLEN is the one field it writes. -/
theorem poolclrEmptiesThePool : Obligations.PoolclrEmptiesThePool :=
  ⟨by decide, fun _ => exec_poolclr⟩

/-- Settles O34: the memory written at POOLLEN reads the word there and what it read before elsewhere. -/
theorem poolpushAppendsOrFaults : Obligations.PoolpushAppendsOrFaults :=
  ⟨fun ra => decodeOfEncodeIsTheCommand (.poolpush ra) rfl, fun s ra =>
    ⟨fun hroom => ⟨s.pool.write s.poolLen s.x[ra], exec_poolpush_of_room hroom,
      fun j => poolRead_poolWrite s.poolLen j s.x[ra] s⟩, exec_poolpush_of_full⟩⟩

/-- Settles O35: the word is POOLRD's encoding, and POOLLEN divides the indices. -/
theorem poolrdReadsOrFaults : Obligations.PoolrdReadsOrFaults :=
  ⟨fun rd ra => decodeOfEncodeIsTheCommand (.poolrd rd ra) rfl, fun _ _ _ =>
    ⟨fun hlt => exec_poolrd_of_lt hlt, exec_poolrd_of_ge⟩⟩

/-- Settles O36: the draw has the width W, and an injected value is the draw. -/
theorem samplePicksByTheDraw : Obligations.SamplePicksByTheDraw :=
  ⟨fun rd => decodeOfEncodeIsTheCommand (.sample rd) rfl, fun s _ =>
    ⟨exec_sample_of_empty, fun hsome => ⟨drawValue s.cfg.w s, drawValue_lt s.cfg.w s,
      fun _ _ hdraws => drawValue_injected hdraws, exec_sample_of_ne_zero hsome⟩⟩⟩

end Sys2Proof.Machine
end

section
/-!
SUPPORT. The primitives of the cipher (spec 44 R91, R93 to R97): which position of its operands each position of a result
is, and what of TABLES' well-formedness (44 R90) the statements about them use.
-/

namespace Sys2Proof

/-! ### Well-formed tables -/

/-- The well-formedness column of 44 R90, item by item. -/
theorem Tables.wellFormed_iff (t : Tables) :
    t.wellFormed = true ↔ distinctWithin 10 t.p10.toList = true ∧ distinctWithin 10 t.p8.toList = true ∧ t.ls1 < 5 ∧
      t.ls2 < 5 ∧ distinctWithin 8 t.ip.toList = true ∧ invertsIp t = true ∧ entriesWithin 4 t.ep.toList = true ∧
      distinctWithin 4 t.p4.toList = true := by
  simp [Tables.wellFormed, and_assoc]

theorem distinctWithin_getElem {n k : Nat} {t : Vector Nat k} (h : distinctWithin n t.toList = true) {j : Nat}
    (hj : j < k) : 1 ≤ t[j] ∧ t[j] ≤ n := by
  simp only [distinctWithin, entriesWithin, Bool.and_eq_true, List.all_eq_true, decide_eq_true_eq] at h
  exact h.1 _ (by simp)

/-- `FP[IP[j]] = j` (44 R90), indices counted from 0. -/
theorem invertsIp_getElem {t : Tables} (h : invertsIp t = true) {j i : Nat} (hj : j < 8) (hi : i < 8)
    (hip : t.ip[j] = i + 1) : t.fp[i] = j + 1 := by
  simp only [invertsIp, List.all_eq_true, List.mem_range, beq_iff_eq] at h
  simpa [List.getD_eq_getElem?_getD, hj, hi, hip] using h j hj

end Sys2Proof

namespace Sys2Proof.Machine

/-! ### Positions -/

section
variable {n m : Nat}

/-- Below the width, positions count the bits from the most significant one (44 R91). -/
theorem position_succ {v : BitVec n} {i : Nat} (hi : i < n) : position v (i + 1) = v.getMsbD i := by
  simp [position, BitVec.getMsbD, hi, Nat.sub_sub, Nat.add_comm]

theorem eq_of_position_eq {a b : BitVec n} (h : ∀ j, j < n → position a (j + 1) = position b (j + 1)) : a = b :=
  BitVec.eq_of_getMsbD_eq fun j hj => by rw [← position_succ hj, h j hj, position_succ hj]

theorem position_xor (a b : BitVec n) (j : Nat) : position (a ^^^ b) j = (position a j ^^ position b j) :=
  BitVec.getLsbD_xor

theorem position_append (a : BitVec n) (b : BitVec m) {j : Nat} (hj : j ≤ n + m) :
    position (a ++ b) j = if j ≤ n then position a j else position b (j - n) := by
  rw [position, BitVec.getLsbD_append]
  split_ifs with hlow hleft
  · omega
  · exact congrArg b.getLsbD (by omega)
  · exact congrArg a.getLsbD (by omega)
  · omega

theorem position_extractLsb' {v : BitVec n} {start len j : Nat} (h : start + len ≤ n) (h1 : 1 ≤ j) (hj : j ≤ len) :
    position (v.extractLsb' start len) j = position v (n - start - len + j) := by
  rw [position, BitVec.getLsbD_extractLsb', decide_eq_true (by omega), Bool.true_and]
  exact congrArg v.getLsbD (by omega)

end

/-! ### Permutations and rotations -/

/-- Position `j` of `perm(T, n, v)` is position `T[j]` of `v` (44 R91). -/
theorem position_perm {k n : Nat} (t : Vector Nat k) (v : BitVec n) {j : Nat} (hj : j < k) :
    position (perm t v) (j + 1) = position v t[j] := by
  have hindex : k - 1 - (k - (j + 1)) = j := by omega
  rw [position, perm, BitVec.getLsbD_ofFnLE, dif_pos (by omega)]
  simp only [hindex, position]

theorem rol5_eq_rotateLeft (v : BitVec 5) {s : Nat} (hs : s < 5) : rol5 v s = v.rotateLeft s := by
  rw [BitVec.rotateLeft_def, Nat.mod_eq_of_lt hs, rol5]

/-- `rol5` moves every position to the left, around the five (44 R91). -/
theorem position_rol5 (v : BitVec 5) {s i : Nat} (hs : s < 5) (hi : i < 5) :
    position (rol5 v s) (i + 1) = position v ((i + s) % 5 + 1) := by
  rw [rol5_eq_rotateLeft v hs, position_succ hi, BitVec.getMsbD_rotateLeft, position_succ (Nat.mod_lt _ (by decide)),
    decide_eq_true hi, Bool.true_and, Nat.add_comm]

/-- Both halves of the key rotated left by `s` (44 R93). -/
def rotateHalves (s : Nat) (p : BitVec 10) : BitVec 10 := rol5 (p.extractLsb' 5 5) s ++ rol5 (p.extractLsb' 0 5) s

/-- K1 is P8 of the halves rotated by LS1, K2 of those rotated by LS2 in addition (44 R93). -/
theorem subkeys_eq (t : Tables) (key : BitVec 10) :
    subkeys t key = (perm t.p8 (rotateHalves t.ls1 (perm t.p10 key)),
      perm t.p8 (rotateHalves t.ls2 (rotateHalves t.ls1 (perm t.p10 key)))) := by
  simp only [subkeys, rotateHalves, BitVec.extractLsb'_append_eq_left, BitVec.extractLsb'_append_eq_right]

theorem rotatedFrom_mem (s j : Nat) : 1 ≤ rotatedFrom s j ∧ rotatedFrom s j ≤ 10 := by
  unfold rotatedFrom
  split <;> omega

/-- Rotations of the halves add up. -/
theorem rotatedFrom_rotatedFrom (a b j : Nat) :
    rotatedFrom a (rotatedFrom b j) = rotatedFrom (a + b) j := by
  unfold rotatedFrom
  split <;> split <;> omega

theorem position_rotateHalves (p : BitVec 10) {s j : Nat} (hs : s < 5) (h1 : 1 ≤ j) (hj : j ≤ 10) :
    position (rotateHalves s p) j = position p (rotatedFrom s j) := by
  rw [rotateHalves, position_append _ _ hj, rotatedFrom]
  split
  case isTrue hleft =>
    obtain ⟨i, rfl⟩ : ∃ i, j = i + 1 := ⟨j - 1, by omega⟩
    rw [position_rol5 _ hs (by omega), position_extractLsb' (by decide) (by omega) (by omega)]
    exact congrArg (position p) (by omega)
  case isFalse hright =>
    obtain ⟨i, rfl⟩ : ∃ i, j = i + 6 := ⟨j - 6, by omega⟩
    rw [show i + 6 - 5 = i + 1 by omega, position_rol5 _ hs (by omega),
      position_extractLsb' (by decide) (by omega) (by omega)]
    exact congrArg (position p) (by omega)

/-- A position of P8 of the rotated halves is a position of the key, found back through P8, the rotation and P10. -/
theorem position_subkey {t : Tables} (h : t.wellFormed = true) {key : BitVec 10} {p : BitVec 10} {s j q : Nat}
    (hj : j < 8) (hq : q < 10) (hp : ∀ i, 1 ≤ i → i ≤ 10 → position p i = position (perm t.p10 key) (rotatedFrom s i))
    (hfrom : rotatedFrom s t.p8[j] = q + 1) : position (perm t.p8 p) (j + 1) = position key t.p10[q] := by
  obtain ⟨_, hp8, _⟩ := t.wellFormed_iff.1 h
  obtain ⟨h1, h10⟩ := distinctWithin_getElem hp8 hj
  rw [position_perm _ _ hj, hp _ h1 h10, hfrom, position_perm _ _ hq]

/-! ### The rounds -/

/-- The row and the column of an S-box entry, as numbers (44 R94). -/
theorem sbox_index : ∀ n : BitVec 4,
    (BitVec.ofBool (n.getLsbD 3) ++ BitVec.ofBool (n.getLsbD 0)).toNat =
      2 * (position n 1).toNat + (position n 4).toNat ∧
    (n.extractLsb' 1 2).toNat = 2 * (position n 2).toNat + (position n 3).toNat := by decide

theorem sbox_eq {s : Vector (Vector (BitVec 2) 4) 4} {n : BitVec 4} {row col : Nat} (hr : row < 4) (hc : col < 4)
    (hrow : row = 2 * (position n 1).toNat + (position n 4).toNat)
    (hcol : col = 2 * (position n 2).toNat + (position n 3).toNat) : sbox s n = s[row][col] := by
  obtain ⟨hrow', hcol'⟩ := sbox_index n
  simp only [sbox, hrow', hcol', ← hrow, ← hcol]

/-- The value whose positions are those of EP(r) XOR k is that value (44 R95). -/
theorem eq_perm_xor {k n : Nat} {t : Vector Nat k} {r : BitVec n} {key u : BitVec k}
    (h : ∀ (j : Nat) (hj : j < k), position u (j + 1) = (position r t[j] ^^ position key (j + 1))) :
    u = perm t r ^^^ key :=
  eq_of_position_eq fun j hj => by rw [h j hj, position_xor, position_perm t r hj]

theorem eq_perm {k n : Nat} {t : Vector Nat k} {v : BitVec n} {p : BitVec k}
    (h : ∀ (j : Nat) (hj : j < k), position p (j + 1) = position v t[j]) : p = perm t v :=
  eq_of_position_eq fun j hj => by rw [h j hj, position_perm t v hj]

/-- The two rounds on the halves of `p`, swapped between them (44 R96). -/
def rounds (t : Tables) (p k1 k2 : BitVec 8) : BitVec 8 :=
  let l1 := p.extractLsb' 4 4 ^^^ roundF t (p.extractLsb' 0 4) k1
  (p.extractLsb' 0 4 ^^^ roundF t l1 k2) ++ l1

theorem encryptBlock_eq (t : Tables) (b k1 k2 : BitVec 8) :
    encryptBlock t b k1 k2 = perm t.fp (rounds t (perm t.ip b) k1 k2) := rfl

/-- A round undoes itself, whatever the round function: the rounds with the subkeys exchanged undo the rounds. -/
theorem rounds_rounds (t : Tables) (p k1 k2 : BitVec 8) : rounds t (rounds t p k1 k2) k2 k1 = p := by
  simp only [rounds, BitVec.extractLsb'_append_eq_left, BitVec.extractLsb'_append_eq_right, BitVec.xor_assoc,
    BitVec.xor_self, BitVec.xor_zero]
  exact BitVec.extractLsb'_append_extractLsb'

theorem perm_ip_leftInverse {t : Tables} (h : t.wellFormed = true) :
    Function.LeftInverse (perm (n := 8) t.ip) (perm t.fp) := by
  obtain ⟨_, _, _, _, hip, hinv, _⟩ := t.wellFormed_iff.1 h
  refine fun v => eq_of_position_eq fun j hj => ?_
  obtain ⟨h1, h8⟩ := distinctWithin_getElem hip hj
  obtain ⟨i, hi⟩ : ∃ i, t.ip[j] = i + 1 := ⟨t.ip[j] - 1, by omega⟩
  rw [position_perm _ _ hj, hi, position_perm _ _ (by omega), invertsIp_getElem hinv hj (by omega) hi]

/-- FP undoes IP, since IP undoes FP and the blocks are finite in number. -/
theorem perm_fp_leftInverse {t : Tables} (h : t.wellFormed = true) :
    Function.LeftInverse (perm (n := 8) t.fp) (perm t.ip) :=
  have hip := perm_ip_leftInverse h
  hip.rightInverse_of_surjective (Finite.injective_iff_surjective.1 hip.injective)

/-- Encryption with the subkeys exchanged undoes encryption (44 R98). -/
theorem encryptBlock_encryptBlock {t : Tables} (h : t.wellFormed = true) (b k1 k2 : BitVec 8) :
    encryptBlock t (encryptBlock t b k1 k2) k2 k1 = b := by
  simp only [encryptBlock_eq, perm_ip_leftInverse h _, rounds_rounds, perm_fp_leftInverse h _]

/-- Settles O38: each result is traced to its operands position by position, and a value given by its positions is the
intermediate value of the definition. -/
theorem cipherPrimitivesFollowTheirRules : Obligations.CipherPrimitivesFollowTheirRules := by
  refine ⟨fun _ _ t v _ hj => position_perm t v hj, fun v _ _ hs hi => position_rol5 v hs hi,
    fun t key j q hj hq ht => ?_, fun _ _ _ _ hr hc => sbox_eq hr hc, fun t r k u hu j hj => ?_,
    fun t b k1 k2 p l1 l2 hp hl1 hl2 j hj => ?_, fun _ _ _ _ => rfl⟩
  · obtain ⟨_, _, hls1, hls2, _⟩ := t.wellFormed_iff.1 ht
    rw [subkeys_eq]
    refine ⟨position_subkey ht hj hq fun i h1 h10 => position_rotateHalves _ hls1 h1 h10,
      position_subkey ht hj hq fun i h1 h10 => ?_⟩
    obtain ⟨hfrom1, hfrom10⟩ := rotatedFrom_mem t.ls2 i
    rw [position_rotateHalves _ hls2 h1 h10, position_rotateHalves _ hls1 hfrom1 hfrom10,
      rotatedFrom_rotatedFrom]
  · rw [eq_perm_xor hu]
    exact position_perm _ _ hj
  · rw [hl2, hl1, eq_perm hp]
    exact position_perm _ _ hj

/-- Settles O43: decryption is encryption with the subkeys exchanged, which undoes it in either order. -/
theorem cipherRoundTrip : Obligations.CipherRoundTrip := fun _ b k1 k2 ht =>
  ⟨encryptBlock_encryptBlock ht b k1 k2, encryptBlock_encryptBlock ht b k2 k1⟩

end Sys2Proof.Machine
end

section
/-!
SUPPORT. The cipher commands KEYSET, KEYDRV, FENC, FDEC (spec 44 R99 to R102), an equation per branch.
-/

namespace Sys2Proof.Machine

section
variable {s : State} {rd ra : Reg}

theorem keyOf_toNat (v : Word) : (keyOf v).toNat = v % 1024 := BitVec.toNat_ofNat v 10

theorem blockOf_toNat (b : BitVec 8) : blockOf b.toNat = b := by simp [blockOf]

/-- KEYSET of a 10-bit key (44 R99). -/
theorem exec_keyset_of_lt (hlt : s.x[ra] < 1024) :
    exec (.keyset ra) s = .next ((loadKey (keyOf s.x[ra]) s).answered 0) :=
  if_neg (Nat.not_le.2 hlt)

/-- KEYSET of a wider value (44 R99). -/
theorem exec_keyset_of_ge (hge : 1024 ≤ s.x[ra]) : exec (.keyset ra) s = .next (s.faulted 0x14) :=
  if_pos hge

theorem exec_keydrv : exec (.keydrv ra) s = .next ((loadKey (keyOf s.x[ra]) s).answered 0) := rfl

/-! ### The checks of a raw block command -/

theorem blockFault_of_no_key (hkey : s.keyv = false) (b : Word) : blockFault s b = some .noKey := if_pos hkey

theorem blockFault_of_ge (hkey : s.keyv = true) {b : Word} (hge : 256 ≤ b) : blockFault s b = some .blockRange := by
  simp [blockFault, hkey, hge]

theorem blockFault_of_block (hkey : s.keyv = true) (b : BitVec 8) : blockFault s b.toNat = none := by
  simp [blockFault, hkey, b.isLt]

/-- FENC and FDEC of a word that a check stops (44 R101, R102). -/
theorem exec_block_of_fault {i : Instr} (hi : i = .fenc rd ra ∨ i = .fdec rd ra) {c : Cause}
    (h : blockFault s s.x[ra] = some c) : exec i s = .next (s.faulted c.code) := by
  obtain rfl | rfl := hi
  · simp only [exec, execFenc, readReg, h]
    rfl
  · simp only [exec, execFdec, readReg, h]
    rfl

/-- FENC of an 8-bit block with a key loaded (44 R101). -/
theorem exec_fenc_of_block (hkey : s.keyv = true) {b : BitVec 8} (hb : s.x[ra] = b.toNat) :
    exec (.fenc rd ra) s = .next ((s.wrote rd (encryptBlock s.cfg.tables b s.k1 s.k2).toNat).answered 0) := by
  simp only [exec, execFenc, readReg, hb, blockFault_of_block hkey, blockOf_toNat]
  rfl

/-- FDEC of an 8-bit block with a key loaded (44 R102). -/
theorem exec_fdec_of_block (hkey : s.keyv = true) {b : BitVec 8} (hb : s.x[ra] = b.toNat) :
    exec (.fdec rd ra) s = .next ((s.wrote rd (encryptBlock s.cfg.tables b s.k2 s.k1).toNat).answered 0) := by
  simp only [exec, execFdec, readReg, hb, blockFault_of_block hkey, blockOf_toNat]
  rfl

end

/-- Settles O39: the word is KEYSET's encoding, and 1024 divides the operands. -/
theorem keysetLoadsAKeyOrFaults : Obligations.KeysetLoadsAKeyOrFaults :=
  ⟨fun ra => decodeOfEncodeIsTheCommand (.keyset ra) rfl, fun s ra =>
    ⟨fun hlt => ⟨keyOf s.x[ra], (keyOf_toNat _).trans (Nat.mod_eq_of_lt hlt), exec_keyset_of_lt hlt⟩,
      exec_keyset_of_ge⟩⟩

/-- Settles O40: the word is KEYDRV's encoding, and no operand is refused. -/
theorem keydrvDerivesTheKey : Obligations.KeydrvDerivesTheKey :=
  ⟨fun ra => decodeOfEncodeIsTheCommand (.keydrv ra) rfl, fun s ra => ⟨keyOf s.x[ra], keyOf_toNat _, exec_keydrv⟩⟩

/-- Settles O41: the word is FENC's encoding, and each operand passes the two checks or is stopped by the first it
fails. -/
theorem fencEncryptsOneBlock : Obligations.FencEncryptsOneBlock :=
  ⟨fun rd ra => decodeOfEncodeIsTheCommand (.fenc rd ra) rfl, fun _ _ _ =>
    ⟨fun hkey _ hb => exec_fenc_of_block hkey hb,
      fun hkey => exec_block_of_fault (.inl rfl) (blockFault_of_no_key hkey _),
      fun hkey hge => exec_block_of_fault (.inl rfl) (blockFault_of_ge hkey hge)⟩⟩

/-- Settles O42: the word is FDEC's encoding; the checks are FENC's. -/
theorem fdecDecryptsOneBlock : Obligations.FdecDecryptsOneBlock :=
  ⟨fun rd ra => decodeOfEncodeIsTheCommand (.fdec rd ra) rfl, fun _ _ _ =>
    ⟨fun hkey _ hb => exec_fdec_of_block hkey hb,
      fun hkey => exec_block_of_fault (.inr rfl) (blockFault_of_no_key hkey _),
      fun hkey hge => exec_block_of_fault (.inr rfl) (blockFault_of_ge hkey hge)⟩⟩

end Sys2Proof.Machine
end

section
/-!
SUPPORT. The commands of the mode controller SETMODE, IVSET, IVGEN, MSTART, CENC, CDEC (spec 45 R106 to R112), an
equation per branch.
-/

namespace Sys2Proof

/-- A word with the opcode of a row it does not meet is reserved (30 R48). -/
theorem decode_of_not_meets {o : Opcode} {w : CmdWord} (hop : opField w = opField o.pattern) (hw : ¬o.Meets w) :
    decode w = .reserved .fixedBitsNonzero := by
  simp only [decode, hop, Opcode.ofOp_pattern]
  exact if_neg hw

/-- SETMODE's mask leaves bit 0 of the immediate alone (45 R106). -/
theorem Opcode.setmode_not_meets_commandWord {b : BitVec 8} (h : ¬b ≤ 1) :
    ¬Opcode.setmode.Meets (commandWord 0x40 0 0 0 0 b) := fun hm => by
  obtain ⟨_, _, _, _, _, himm⟩ := hm.fields
  rw [imm8Field_commandWord] at himm
  have hflag : ∀ flag : Bool, flagByte flag ≤ 1 := by decide
  exact h (flagByte_getLsbD_zero b himm ▸ hflag (b.getLsbD 0))

end Sys2Proof

namespace Sys2Proof.Machine

section
variable {s : State} {rd ra : Reg} {b : BitVec 8}

theorem exec_setmode (s : State) (m : CipherMode) : exec (.setmode m) s = .next ({ s with mode := m }.answered 0) := rfl

theorem toNat_blockOf {v : Word} (hv : v < 256) : (blockOf v).toNat = v := Nat.mod_eq_of_lt hv

/-- IVSET of an 8-bit value (45 R107). -/
theorem exec_ivset_of_block (hb : s.x[ra] = b.toNat) :
    exec (.ivset ra) s = .next ({ s with iv := b, chain := b, ivv := true }.answered 0) := by
  simp only [exec, execIvset, readReg, hb, blockOf_toNat]
  exact if_neg (Nat.not_le.2 b.isLt)

/-- IVSET of a wider value (45 R107). -/
theorem exec_ivset_of_ge (hge : 256 ≤ s.x[ra]) : exec (.ivset ra) s = .next (s.faulted 0x17) := if_pos hge

theorem exec_ivgen (s : State) :
    exec .ivgen s = .next ({ s with
      iv := BitVec.ofNat 8 (drawValue 8 s), chain := BitVec.ofNat 8 (drawValue 8 s), ivv := true,
      draws := s.draws.tail, drawCount := s.drawCount + 1 }.answered 0) := rfl

/-- MSTART in ECB mode (45 R109). -/
theorem exec_mstart_of_ecb (hmode : s.mode = .ecb) : exec .mstart s = .next (s.answered 0) := by
  simp only [exec, execMstart, hmode]
  rfl

/-- MSTART in CBC mode with an IV (45 R109). -/
theorem exec_mstart_of_cbc (hmode : s.mode = .cbc) (hiv : s.ivv = true) :
    exec .mstart s = .next ({ s with chain := s.iv }.answered 0) := by
  change execMstart s = complete (setChain s.iv s)
  simp [execMstart, hmode, hiv]

/-- MSTART in CBC mode without an IV (45 R109). -/
theorem exec_mstart_of_no_iv (hmode : s.mode = .cbc) (hiv : s.ivv = false) :
    exec .mstart s = .next (s.faulted 0x63) := by
  simp only [exec, execMstart, hmode, hiv]
  rfl

/-! ### The checks of a mode command -/

theorem modeFault_of_no_key (hkey : s.keyv = false) (v : Word) : modeFault s v = some .noKey := if_pos hkey

theorem modeFault_of_no_iv (hkey : s.keyv = true) (hmode : s.mode = .cbc) (hiv : s.ivv = false) (v : Word) :
    modeFault s v = some .noIv := by
  simp [modeFault, hkey, hmode, hiv]

/-- With a key, and an IV where the mode asks for one, the range of the block is the one check left. -/
theorem modeFault_of_ready (hkey : s.keyv = true) (hready : s.mode = .ecb ∨ s.ivv = true) (v : Word) :
    modeFault s v = if 256 ≤ v then some .blockRange else none := by
  obtain hmode | hiv := hready
  · simp [modeFault, hkey, hmode]
  · simp [modeFault, hkey, hiv]

theorem modeFault_of_ge (hkey : s.keyv = true) (hready : s.mode = .ecb ∨ s.ivv = true) {v : Word} (hge : 256 ≤ v) :
    modeFault s v = some .blockRange := by
  rw [modeFault_of_ready hkey hready, if_pos hge]

theorem modeFault_of_block (hkey : s.keyv = true) (hready : s.mode = .ecb ∨ s.ivv = true) (b : BitVec 8) :
    modeFault s b.toNat = none := by
  rw [modeFault_of_ready hkey hready, if_neg (Nat.not_le.2 b.isLt)]

/-- CENC and CDEC of a word that a check stops (45 R110, R111). -/
theorem exec_mode_of_fault {i : Instr} (hi : i = .cenc rd ra ∨ i = .cdec rd ra) {c : Cause}
    (h : modeFault s s.x[ra] = some c) : exec i s = .next (s.faulted c.code) := by
  obtain rfl | rfl := hi
  · simp only [exec, execCenc, readReg, h]
    rfl
  · simp only [exec, execCdec, readReg, h]
    rfl

/-! ### A block in each mode -/

/-- CENC of an 8-bit block in ECB mode (45 R110). -/
theorem exec_cenc_of_ecb (hkey : s.keyv = true) (hmode : s.mode = .ecb) (hb : s.x[ra] = b.toNat) :
    exec (.cenc rd ra) s = .next ((s.wrote rd (encryptBlock s.cfg.tables b s.k1 s.k2).toNat).answered 0) := by
  simp only [exec, execCenc, readReg, hb, modeFault_of_block hkey (.inl hmode), hmode, blockOf_toNat]
  rfl

/-- CENC of an 8-bit block in CBC mode (45 R110). -/
theorem exec_cenc_of_cbc (hkey : s.keyv = true) (hmode : s.mode = .cbc) (hiv : s.ivv = true)
    (hb : s.x[ra] = b.toNat) :
    exec (.cenc rd ra) s =
      .next ({ s.wrote rd (encryptBlock s.cfg.tables (b ^^^ s.chain) s.k1 s.k2).toNat with
        chain := encryptBlock s.cfg.tables (b ^^^ s.chain) s.k1 s.k2 }.answered 0) := by
  simp only [exec, execCenc, readReg, hb, modeFault_of_block hkey (.inr hiv), hmode, blockOf_toNat]
  rfl

/-- CDEC of an 8-bit block in ECB mode (45 R111). -/
theorem exec_cdec_of_ecb (hkey : s.keyv = true) (hmode : s.mode = .ecb) (hb : s.x[ra] = b.toNat) :
    exec (.cdec rd ra) s = .next ((s.wrote rd (decryptBlock s.cfg.tables b s.k1 s.k2).toNat).answered 0) := by
  simp only [exec, execCdec, readReg, hb, modeFault_of_block hkey (.inl hmode), hmode, blockOf_toNat]
  rfl

/-- CDEC of an 8-bit block in CBC mode (45 R111). -/
theorem exec_cdec_of_cbc (hkey : s.keyv = true) (hmode : s.mode = .cbc) (hiv : s.ivv = true)
    (hb : s.x[ra] = b.toNat) :
    exec (.cdec rd ra) s =
      .next ({ s.wrote rd (decryptBlock s.cfg.tables b s.k1 s.k2 ^^^ s.chain).toNat with chain := b }.answered 0) := by
  simp only [exec, execCdec, readReg, hb, modeFault_of_block hkey (.inr hiv), hmode, blockOf_toNat]
  rfl

end

/-! ### The statements -/

/-- Settles O44: bit 0 of the immediate is the mode, and a word with another bit set does not meet SETMODE's row. -/
theorem setmodeWritesTheMode : Obligations.SetmodeWritesTheMode :=
  ⟨by decide, by decide, fun _ _ _ =>
    ⟨.fixedBitsNonzero, decode_of_not_meets (o := .setmode) (opField_commandWord ..)
      (Opcode.setmode_not_meets_commandWord (by bv_omega))⟩, exec_setmode⟩

/-- Settles O45: the word is IVSET's encoding, and 256 divides the operands. -/
theorem ivsetLoadsAnIvOrFaults : Obligations.IvsetLoadsAnIvOrFaults :=
  ⟨fun ra => decodeOfEncodeIsTheCommand (.ivset ra) rfl, fun _ _ =>
    ⟨fun _ hb => exec_ivset_of_block hb, exec_ivset_of_ge⟩⟩

/-- Settles O46: the draw has 8 bits, so the byte that IV and CHAIN take is the draw. -/
theorem ivgenLoadsADraw : Obligations.IvgenLoadsADraw :=
  ⟨by decide, fun s => ⟨BitVec.ofNat 8 (drawValue 8 s), fun _ _ hdraws =>
    (BitVec.toNat_ofNat _ 8).trans ((Nat.mod_eq_of_lt (drawValue_lt 8 s)).trans (drawValue_injected hdraws)),
    exec_ivgen s⟩⟩

/-- Settles O47: the word is MSTART's encoding, and the mode and IVV divide the states. -/
theorem mstartRestartsTheChain : Obligations.MstartRestartsTheChain :=
  ⟨by decide, fun _ => ⟨exec_mstart_of_ecb, exec_mstart_of_cbc, exec_mstart_of_no_iv⟩⟩

/-- Settles O48: the word is CENC's encoding, and each operand passes the checks of its mode or is stopped by the first
it fails. -/
theorem cencEncryptsInTheMode : Obligations.CencEncryptsInTheMode :=
  ⟨fun rd ra => decodeOfEncodeIsTheCommand (.cenc rd ra) rfl, fun _ _ _ =>
    ⟨fun hkey hmode _ hb => exec_cenc_of_ecb hkey hmode hb,
      fun hkey hmode hiv _ hb => exec_cenc_of_cbc hkey hmode hiv hb,
      fun hkey => exec_mode_of_fault (.inl rfl) (modeFault_of_no_key hkey _),
      fun hkey hmode hiv => exec_mode_of_fault (.inl rfl) (modeFault_of_no_iv hkey hmode hiv _),
      fun hkey hready hge => exec_mode_of_fault (.inl rfl) (modeFault_of_ge hkey hready hge)⟩⟩

/-- Settles O49: the word is CDEC's encoding; the checks are CENC's. -/
theorem cdecDecryptsInTheMode : Obligations.CdecDecryptsInTheMode :=
  ⟨fun rd ra => decodeOfEncodeIsTheCommand (.cdec rd ra) rfl, fun _ _ _ =>
    ⟨fun hkey hmode _ hb => exec_cdec_of_ecb hkey hmode hb,
      fun hkey hmode hiv _ hb => exec_cdec_of_cbc hkey hmode hiv hb,
      fun hkey => exec_mode_of_fault (.inr rfl) (modeFault_of_no_key hkey _),
      fun hkey hmode hiv => exec_mode_of_fault (.inr rfl) (modeFault_of_no_iv hkey hmode hiv _),
      fun hkey hready hge => exec_mode_of_fault (.inr rfl) (modeFault_of_ge hkey hready hge)⟩⟩

theorem State.wrote_x_self (s : State) (r : Reg) (v : Word) : (s.wrote r v).x[r] = v := by
  simp [State.wrote]

/-- Settles O50: in ECB mode what CENC writes is a function of the block, the tables and the subkeys. -/
theorem ecbIsDeterministic : Obligations.EcbIsDeterministic := by
  intro s t s' t' rd ra rd' ra' hsmode htmode hskey htkey htables hk1 hk2 hlt hsame hs ht
  have hb : s.x[ra] = (blockOf s.x[ra]).toNat := (toNat_blockOf hlt).symm
  cases (exec_cenc_of_ecb hskey hsmode hb).symm.trans hs
  cases (exec_cenc_of_ecb htkey htmode (hsame.symm.trans hb)).symm.trans ht
  calc ((s.wrote rd _).answered 0).x[rd]
      = (encryptBlock s.cfg.tables (blockOf s.x[ra]) s.k1 s.k2).toNat := s.wrote_x_self rd _
    _ = (encryptBlock t.cfg.tables (blockOf s.x[ra]) t.k1 t.k2).toNat := by rw [htables, hk1, hk2]
    _ = ((t.wrote rd' _).answered 0).x[rd'] := (t.wrote_x_self rd' _).symm

end Sys2Proof.Machine
end

section
/-!
SUPPORT. A message in CBC mode (spec 45 R105, R113): what a core in a message holds, what WR, MSTART, CENC and CDEC make
of it when the host presents them, and the two cores of the round trip side by side.
-/

namespace Sys2Proof.Machine

/-- A core in the middle of a CBC message with these tables, subkeys and chaining value: a key and an IV are loaded and
no fault stands (45 R110, R111). -/
structure CbcSession (tables : Tables) (k1 k2 chain : BitVec 8) (s : State) : Prop where
  quiet : s.fault = false
  cbc : s.mode = .cbc
  keyLoaded : s.keyv = true
  ivLoaded : s.ivv = true
  tables_eq : s.cfg.tables = tables
  k1_eq : s.k1 = k1
  k2_eq : s.k2 = k2
  chain_eq : s.chain = chain

variable {tables : Tables} {k1 k2 chain b : BitVec 8} {s u v w : State} {op : Instr} {rd ra rd' ra' : Reg}

/-- A well-formed command that the host presents while no fault stands is executed. -/
theorem submit_eq_some {i : Instr} {d : Word} (hi : i.wellFormed = true) (hquiet : s.fault = false)
    (hexec : exec i (s.took (encode i) d []) = .next u) : submit i d s = some u := by
  have hstep : step { s with inbox := [.transaction (encode i) d] } = .next u :=
    (stepExecutesTheDecodedCommand { s with inbox := _ } _ _ _ i rfl (decodeOfEncodeIsTheCommand i hi)
      (.inl hquiet)).trans hexec
  simp only [submit, hstep]

/-- The first block of a message, then the rest (45 R105). -/
theorem messageBlocks_cons {x : Word} {xs ys : List Word} (hwr : submit (.wr ra) x s = some u)
    (hop : submit op 0 u = some v) (hrest : messageBlocks op rd ra xs v = some (ys, w)) :
    messageBlocks op rd ra (x :: xs) s = some (v.x[rd] :: ys, w) := by
  simp [messageBlocks, hwr, hop, hrest, readReg]

namespace CbcSession

theorem submit_wr (h : CbcSession tables k1 k2 chain s) (ra : Reg) (x : Word) :
    ∃ u, submit (.wr ra) x s = some u ∧ u.x[ra] = x ∧ CbcSession tables k1 k2 chain u :=
  ⟨_, submit_eq_some rfl h.quiet (exec_wr _ ra), State.wrote_x_self _ ra x, { h with }⟩

theorem submit_cenc (h : CbcSession tables k1 k2 chain s) (rd : Reg) (hb : s.x[ra] = b.toNat) :
    ∃ u, submit (.cenc rd ra) 0 s = some u ∧ u.x[rd] = (encryptBlock tables (b ^^^ chain) k1 k2).toNat ∧
      CbcSession tables k1 k2 (encryptBlock tables (b ^^^ chain) k1 k2) u := by
  obtain ⟨hquiet, hcbc, hkey, hiv, rfl, rfl, rfl, rfl⟩ := h
  exact ⟨_, submit_eq_some rfl hquiet (exec_cenc_of_cbc hkey hcbc hiv hb), State.wrote_x_self _ rd _,
    ⟨hquiet, hcbc, hkey, hiv, rfl, rfl, rfl, rfl⟩⟩

theorem submit_cdec (h : CbcSession tables k1 k2 chain s) (rd : Reg) (hb : s.x[ra] = b.toNat) :
    ∃ u, submit (.cdec rd ra) 0 s = some u ∧ u.x[rd] = (decryptBlock tables b k1 k2 ^^^ chain).toNat ∧
      CbcSession tables k1 k2 b u := by
  obtain ⟨hquiet, hcbc, hkey, hiv, rfl, rfl, rfl, rfl⟩ := h
  exact ⟨_, submit_eq_some rfl hquiet (exec_cdec_of_cbc hkey hcbc hiv hb), State.wrote_x_self _ rd _,
    ⟨hquiet, hcbc, hkey, hiv, rfl, rfl, rfl, rfl⟩⟩

/-- Two cores with one chaining value: CDEC on the second gives back each block that CENC took on the first, and then
they have one chaining value again, the block between them (45 R113). -/
theorem messageBlocks_roundTrip (hwf : tables.wellFormed = true) (rd ra rd' ra' : Reg) (plain : List Word) :
    ∀ (chain : BitVec 8) (s t : State), (∀ x ∈ plain, x < 256) → CbcSession tables k1 k2 chain s →
      CbcSession tables k1 k2 chain t → ∃ cipher s' t', messageBlocks (.cenc rd ra) rd ra plain s = some (cipher, s') ∧
        messageBlocks (.cdec rd' ra') rd' ra' cipher t = some (plain, t') ∧ s'.fault = false ∧ t'.fault = false := by
  induction plain with
  | nil => exact fun _ s t _ hs ht => ⟨[], s, t, rfl, rfl, hs.quiet, ht.quiet⟩
  | cons x xs ih =>
    intro chain s t hblocks hs ht
    obtain ⟨hx, hxs⟩ := List.forall_mem_cons.1 hblocks
    have hb : x = (blockOf x).toNat := (toNat_blockOf hx).symm
    obtain ⟨s₁, hwr, hsrc, hs₁⟩ := hs.submit_wr ra x
    obtain ⟨s₂, henc, hout, hs₂⟩ := hs₁.submit_cenc rd (hsrc.trans hb)
    obtain ⟨t₁, hwr', hsrc', ht₁⟩ := ht.submit_wr ra' s₂.x[rd]
    obtain ⟨t₂, hdec, hout', ht₂⟩ := ht₁.submit_cdec rd' (hsrc'.trans hout)
    have hback : t₂.x[rd'] = x := by
      rw [hout', (cipherRoundTrip _ _ _ _ hwf).1, BitVec.xor_assoc, BitVec.xor_self, BitVec.xor_zero, ← hb]
    obtain ⟨cipher, s', t', hcipher, hplain, hsquiet, htquiet⟩ := ih _ s₂ t₂ hxs hs₂ ht₂
    exact ⟨s₂.x[rd] :: cipher, s', t', messageBlocks_cons hwr henc hcipher,
      hback ▸ messageBlocks_cons hwr' hdec hplain, hsquiet, htquiet⟩

end CbcSession

/-- MSTART on a core with a key and an IV begins a CBC message (45 R109). -/
theorem submit_mstart (hquiet : s.fault = false) (hcbc : s.mode = .cbc) (hkey : s.keyv = true) (hiv : s.ivv = true) :
    ∃ u, submit .mstart 0 s = some u ∧ CbcSession s.cfg.tables s.k1 s.k2 s.iv u :=
  ⟨_, submit_eq_some rfl hquiet (exec_mstart_of_cbc hcbc hiv), ⟨hquiet, hcbc, hkey, hiv, rfl, rfl, rfl, rfl⟩⟩

/-- Settles O51: MSTART gives both cores the chaining value IV, and from one chaining value the blocks come back. -/
theorem cbcMessageRoundTrip : Obligations.CbcMessageRoundTrip := by
  intro s t rd ra rd' ra' plain hsinv _ hsquiet htquiet hscbc htcbc hskey htkey hsiv htiv htables hk1 hk2 hiv hblocks
  obtain ⟨_, _, _, _, _, _, hwf⟩ := s.cfg.wellFormed_iff.1 hsinv.cfgWellFormed
  obtain ⟨s₀, hs, hsession⟩ := submit_mstart hsquiet hscbc hskey hsiv
  obtain ⟨t₀, ht, htsession⟩ := submit_mstart htquiet htcbc htkey htiv
  rw [← htables, ← hk1, ← hk2, ← hiv] at htsession
  obtain ⟨cipher, s', t', hcipher, hplain, hquiet⟩ :=
    CbcSession.messageBlocks_roundTrip hwf rd ra rd' ra' plain _ s₀ t₀ hblocks hsession htsession
  exact ⟨cipher, s', t', by rw [message, hs, Option.bind_some, hcipher], by rw [message, ht, Option.bind_some, hplain],
    hquiet⟩

end Sys2Proof.Machine
end

section
/-!
SUPPORT. Exceptions (spec 60 R121 to R125, R135): what raising writes, that a command which raises has done nothing else,
and what the core does while the fault stands.
-/

namespace Sys2Proof.Machine

variable {s t : State} {i : Instr}

/-! ### Raising -/

theorem raise_eq (c : Cause) (s : State) : raise c s = s.faulted c.code := rfl

/-- NO_GENERATOR is the one cause with code 0x51 (60 R121). -/
theorem Cause.code_eq_noGenerator_iff (c : Cause) : c.code = 0x51 ↔ c = .noGenerator := by cases c <;> decide

/-- A command answers OK, or raises one of its causes and does nothing else, or is FINDGEN and has written the sentinel
(60 R121, R123, 43 R79). -/
theorem Effect.ok_or_raised (he : Effect s i t) :
    (∃ v, t.answer = some ⟨.ok, v⟩) ∨
      (∃ code, code ∈ causesOf i.opcode ∧ code ≠ 0x51 ∧ t = s.faulted code) ∨
      ∃ rd ra, i = .findgen rd ra ∧ t = (s.wrote rd 0).faulted 0x51 := by
  cases he with
  | faulted hg hc => exact .inr (.inl ⟨_, hc, mt (Cause.code_eq_noGenerator_iff _).1 hg, raise_eq _ s⟩)
  | sentinel rd ra => exact .inr (.inr ⟨rd, ra, rfl, raise_eq _ _⟩)
  | _ => exact .inl ⟨_, rfl⟩

/-- Settles O14: `raise` writes the code of its cause, and each code is that of the table. -/
theorem raiseWritesFaultCauseAndWord : Obligations.RaiseWritesFaultCauseAndWord := fun s =>
  ⟨raise_eq _ s, raise_eq _ s, raise_eq _ s, raise_eq _ s, raise_eq _ s, raise_eq _ s, raise_eq _ s, raise_eq _ s,
    raise_eq _ s, raise_eq _ s, raise_eq _ s, raise_eq _ s, raise_eq _ s, raise_eq _ s⟩

/-- Settles O15: an answer ERR is not OK, so the command has raised, and only FINDGEN's sentinel was written besides. -/
theorem faultsArePrecise : Obligations.FaultsArePrecise := by
  intro i s t v h herr
  obtain ⟨_, hok⟩ | ⟨code, _, hne, ht⟩ | hsentinel := (exec_effect h).ok_or_raised
  · cases herr.symm.trans hok
  · exact .inl ⟨code, ht, hne⟩
  · exact .inr hsentinel

/-- Settles O16: what is raised is a cause of the command's list, 0x51 being in FINDGEN's. -/
theorem commandsRaiseOnlyTheirCauses : Obligations.CommandsRaiseOnlyTheirCauses := by
  intro i s t h
  obtain hok | ⟨code, hmem, _, rfl⟩ | ⟨rd, ra, rfl, rfl⟩ := (exec_effect h).ok_or_raised
  · exact .inl hok
  · exact .inr ⟨rfl, rfl, hmem, rfl⟩
  · exact .inr ⟨rfl, rfl, .tail _ (.head _), rfl⟩

/-! ### While the fault stands -/

/-- Of the commands executed while FAULT = 1, ERRACK alone does more than answer (60 R124, R125). -/
theorem exec_of_acceptedInFault (s : State) (h : acceptedInFault i = true) :
    (∃ v, exec i s = .next (s.answered v)) ∨ i = .errack := by
  obtain rfl | ⟨ra, rfl⟩ | ⟨c, rfl⟩ | rfl := acceptedInFault_iff.1 h
  · exact .inl ⟨0, exec_nop s⟩
  · exact .inl ⟨_, exec_rd s ra⟩
  · exact .inl ⟨_, exec_csrr s c⟩
  · exact .inr rfl

/-- A command executed while FAULT = 1 answers OK (60 R124). -/
theorem exec_ok_of_acceptedInFault (s : State) (h : acceptedInFault i = true) :
    ∃ t v, exec i s = .next t ∧ t.answer = some ⟨.ok, v⟩ := by
  obtain ⟨v, hexec⟩ | rfl := exec_of_acceptedInFault s h
  · exact ⟨_, v, hexec, rfl⟩
  · exact ⟨_, 0, exec_errack s, rfl⟩

/-- ERRACK has one word (30 R47, R54). -/
theorem eq_errackWord {w : CmdWord} (h : decode w = .command .errack) : w = 0x04000000 :=
  (encodeOfDecodeIsTheWord w .errack h).1.symm

/-- Settles O12: in each case of a presented word, the filter's verdict is the one the rule gives. -/
theorem faultFilterDropsAllButFour : Obligations.FaultFilterDropsAllButFour := by
  intro s w d rest hin
  simp only [← acceptedInFault_iff]
  obtain ⟨i, hdec, hpass, hstep⟩ | ⟨hf, hdrop, hstep⟩ | ⟨why, hdec, hf, hstep⟩ := step_transaction_cases hin
  · refine ⟨fun hf => ?_, fun _ => ⟨fun j hj => ?_, fun _ hwhy => ?_⟩⟩
    · have hacc : acceptedInFault i = true := hpass.resolve_left (by simp [hf])
      obtain ⟨t, v, hexec, hok⟩ := exec_ok_of_acceptedInFault (s.took w d rest) hacc
      exact ⟨fun _ => ⟨i, t, v, hdec, hstep, hstep.trans hexec, hok⟩, fun hnot => absurd ⟨i, hdec, hacc⟩ hnot⟩
    · cases hdec.symm.trans hj
      exact hstep
    · cases hdec.symm.trans hwhy
  · refine ⟨fun _ => ⟨fun ⟨i, hdec, hacc⟩ => ?_, fun _ => hstep⟩, fun hquiet => ?_⟩
    · simp [hdrop i hdec] at hacc
    · simp [hf] at hquiet
  · refine ⟨fun hfault => ?_, fun _ => ⟨fun _ hj => ?_, fun _ _ => hstep⟩⟩
    · simp [hf] at hfault
    · cases hdec.symm.trans hj

/-- Settles O13, along the kinds of step; of the executed commands ERRACK alone writes the fault record. -/
theorem onlyErrackOrResetEndsAFault : Obligations.OnlyErrackOrResetEndsAFault := by
  intro s t hf h
  obtain ⟨_, hs⟩ | ⟨rest, hin, _⟩ | ⟨w, d, rest, hin, ⟨i, hdec, hpass, hs⟩ | ⟨_, _, hs⟩ | ⟨_, _, hquiet, _⟩⟩ := step_cases s
  · cases hs.symm.trans h
    exact .inl ⟨hf, rfl, rfl⟩
  · exact .inr (.inl ⟨rest, hin⟩)
  · have hacc : acceptedInFault i = true := hpass.resolve_left (by simp [hf])
    have hexec := hs.symm.trans h
    obtain ⟨v, hv⟩ | rfl := exec_of_acceptedInFault (present w d rest s) hacc
    · cases hv.symm.trans hexec
      exact .inl ⟨hf, rfl, rfl⟩
    · obtain rfl := eq_errackWord hdec
      cases (exec_errack _).symm.trans hexec
      exact .inr (.inr ⟨d, rest, hin, rfl⟩)
  · cases hs.symm.trans h
    exact .inl ⟨hf, rfl, rfl⟩
  · simp [hf] at hquiet

/-! ### With nothing presented -/

/-- Settles O7: of the kinds of step, only holding has an empty list of moves. -/
theorem idleCoreHoldsItsState : Obligations.IdleCoreHoldsItsState := by
  intro s hnil
  obtain ⟨_, hstep⟩ | ⟨_, hreset, _⟩ | ⟨_, _, _, hmove, _⟩ := step_cases s
  · exact hstep
  · cases hnil.symm.trans hreset
  · cases hnil.symm.trans hmove

end Sys2Proof.Machine
end

section
/-!
SUPPORT. Runs (spec 70 R145, R152): while a fault stands a transaction that is not ERRACK writes only the port, so the
fault stands to the end of the run, and a run that ends without one has raised none.
-/

namespace Sys2Proof.Machine

variable {s t u : State} {ms : List HostMove} {w : CmdWord} {d : Word} {rest : List HostMove}

/-! ### While the fault stands -/

/-- The two states differ at most in the command port and the host's list. -/
def OnlyPortChanged (s t : State) : Prop :=
  ∃ cmd wdata answer inbox, t = { s with cmd := cmd, wdata := wdata, answer := answer, inbox := inbox }

theorem OnlyPortChanged.refl (s : State) : OnlyPortChanged s s := ⟨_, _, _, _, rfl⟩

theorem OnlyPortChanged.trans (hst : OnlyPortChanged s t) (htu : OnlyPortChanged t u) : OnlyPortChanged s u := by
  obtain ⟨_, _, _, _, rfl⟩ := hst
  obtain ⟨_, _, _, _, rfl⟩ := htu
  exact ⟨_, _, _, _, rfl⟩

theorem OnlyPortChanged.fault_eq (h : OnlyPortChanged s t) : t.fault = s.fault := by
  obtain ⟨_, _, _, _, rfl⟩ := h
  rfl

theorem onlyPortChanged_inbox (s : State) (ms : List HostMove) : OnlyPortChanged s { s with inbox := ms } :=
  ⟨_, _, _, _, rfl⟩

/-- While FAULT = 1 a word other than ERRACK's is dropped or only answered (60 R124). -/
theorem step_onlyPortChanged (hin : s.inbox = .transaction w d :: rest) (hf : s.fault = true) (hw : w ≠ 0x04000000)
    (h : step s = .next t) : OnlyPortChanged s t := by
  obtain ⟨i, hdec, hpass, hstep⟩ | ⟨_, _, hstep⟩ | ⟨_, _, hquiet, _⟩ := step_transaction_cases hin
  · have hacc : acceptedInFault i = true := hpass.resolve_left (by simp [hf])
    obtain ⟨v, hexec⟩ | rfl := exec_of_acceptedInFault (s.took w d rest) hacc
    · cases (hstep.trans hexec).symm.trans h
      exact ⟨_, _, _, _, rfl⟩
    · exact absurd (eq_errackWord hdec) hw
  · cases hstep.symm.trans h
    exact ⟨_, _, _, _, rfl⟩
  · simp [hf] at hquiet

/-! ### Runs -/

/-- The move is a transaction and its word is not ERRACK's. -/
def HostMove.KeepsFault (m : HostMove) : Prop := ∃ w d, m = .transaction w d ∧ w ≠ 0x04000000

/-- A run takes its first move by one step, which answers, and goes on from the next state (70 R152). -/
theorem runMoves_cons (m : HostMove) (ms : List HostMove) (s : State) :
    ∃ t, step { s with inbox := [m] } = .next t ∧
      runMoves (m :: ms) s = (t.answer :: (runMoves ms t).1, (runMoves ms t).2) := by
  obtain ⟨t, hstep⟩ := stepAlwaysAnswersNext { s with inbox := [m] }
  exact ⟨t, hstep, by simp only [runMoves, hstep]⟩

/-- Settles O59, move by move: each step from FAULT = 1 writes only the port, so that the fault still stands. -/
theorem nothingRunsWhileTheFaultStands : Obligations.NothingRunsWhileTheFaultStands := by
  intro ms
  change ∀ s : State, s.fault = true → (∀ m ∈ ms, m.KeepsFault) → OnlyPortChanged s (runMoves ms s).2
  induction ms with
  | nil => exact fun s _ _ => .refl s
  | cons m ms ih =>
    intro s hf hms
    obtain ⟨⟨w, d, rfl, hw⟩, hrest⟩ := List.forall_mem_cons.1 hms
    obtain ⟨t, hstep, hrun⟩ := runMoves_cons (.transaction w d) ms s
    have hst : OnlyPortChanged s t := (onlyPortChanged_inbox s _).trans (step_onlyPortChanged rfl hf hw hstep)
    rw [hrun]
    exact hst.trans (ih t (hst.fault_eq.trans hf) hrest)

/-- A fault stands to the end of a run in which no move ends it (70 R145). -/
theorem runMoves_fault (hf : s.fault = true) (hms : ∀ m ∈ ms, m.KeepsFault) : (runMoves ms s).2.fault = true :=
  (OnlyPortChanged.fault_eq (nothingRunsWhileTheFaultStands ms s hf hms)).trans hf

/-- A transaction that finds no fault and leaves none has answered OK: REJ needs the one, ERR leaves the other
(30 R44, 60 R122, R124). -/
theorem answer_ok_of_quiet (hin : s.inbox = .transaction w d :: rest) (hs : s.fault = false) (h : step s = .next t)
    (ht : t.fault = false) : ∃ v, t.answer = some ⟨.ok, v⟩ := by
  obtain ⟨_, ⟨resp, v⟩, hans, _, _, hrej, herr⟩ := everyTransactionIsAnswered s t w d rest hin h
  cases resp with
  | ok => exact ⟨v, hans⟩
  | err => exact absurd (herr rfl).2 (by simp [ht])
  | rej => exact absurd (hrej rfl) (by simp [hs])

/-- Settles O60, move by move: a fault raised by one move would stand at the end of the run, so each move finds no fault
and leaves none. -/
theorem aCleanRunWithoutErrackAnswersOk : Obligations.ACleanRunWithoutErrackAnswersOk := by
  rintro ms s hs hms ⟨hend, -⟩
  induction ms generalizing s with
  | nil => exact List.forall_mem_nil _
  | cons m ms ih =>
    obtain ⟨⟨w, d, rfl, _⟩, hrest⟩ := List.forall_mem_cons.1 hms
    obtain ⟨t, hstep, hrun⟩ := runMoves_cons (.transaction w d) ms s
    rw [hrun] at hend ⊢
    have ht : t.fault = false := Bool.eq_false_iff.2 fun hraised => by
      simp [runMoves_fault hraised hrest] at hend
    have hok := answer_ok_of_quiet (s := { s with inbox := _ }) rfl hs hstep ht
    exact List.forall_mem_cons.2 ⟨hok, ih t ht hrest hend⟩

end Sys2Proof.Machine
end
